-- ==== Sys2Proof/Word.lean ====
section
/-! DEFINITION. The bit-vector widths FLCORE's rules speak of (spec/00_scope.md R7). -/

namespace Sys2Proof

/-- A general register, a command word, a token, a time sample: 32 bits (92_eei_decisions.md D3, D7, D31, D34). -/
abbrev Word := BitVec 32

/-- An 8-bit value. -/
abbrev Byte := BitVec 8

/-- A 16-bit value. -/
abbrev Half := BitVec 16

/-- A colour as the block sees it: 24 uninterpreted bits (20_memory.md R71). -/
abbrev Color := BitVec 24

end Sys2Proof
end

