-- ==== Sys2Proof/Syntax.lean ====
section
/-! DEFINITION. The 41 commands of 30_encoding.md R86 (spec/opcode_table.json), one constructor per row. -/

namespace Sys2Proof

/-- A general register number: 0..15, all legal (10_state.md R21, 30_encoding.md R84). -/
abbrev Reg := Fin 16

/-- The commands, in the table's order. Operands in the order of R91: destination, then sources. Every
term is a legal command: a register number, `imm16` and a CSR number are in range by their types (R84). -/
inductive Instr
  /- Move and CSR (40_move_csr.md). -/
  | nop
  | ldi (rd : Reg) (imm16 : Half)
  | ldih (rd : Reg) (imm16 : Half)
  | mov (rd ra : Reg)
  | csrr (rd : Reg) (csr : Byte)
  | csrw (csr : Byte) (ra : Reg)
  /- ALU (41_alu.md). -/
  | scale8 (rd ra rb : Reg)
  | scale8v (rd ra rb : Reg)
  | scale16 (rd ra rb : Reg)
  | qadd8 (rd ra rb : Reg)
  | avg7 (rd ra rb : Reg)
  | avg15 (rd ra rb : Reg)
  | lerp7 (rd ra rb rc : Reg)
  | lerp15 (rd ra rb rc : Reg)
  | ease8 (rd ra : Reg)
  | ease16 (rd ra : Reg)
  /- Noise (44_noise_ops.md). -/
  | plut (rd ra : Reg)
  | nz16r1 (rd ra : Reg)
  | nz16r2 (rd ra rb : Reg)
  | nz16r3 (rd ra rb rc : Reg)
  | nz16r4 (rd ra rb rc re : Reg)
  | nz16u1 (rd ra : Reg)
  | nz16u2 (rd ra rb : Reg)
  | nz16u3 (rd ra rb rc : Reg)
  | nz16u4 (rd ra rb rc re : Reg)
  | nz8r1 (rd ra : Reg)
  | nz8r2 (rd ra rb : Reg)
  | nz8r3 (rd ra rb rc : Reg)
  | nz8u1 (rd ra : Reg)
  | nz8u2 (rd ra rb : Reg)
  | nz8u3 (rd ra rb rc : Reg)
  | nz8h1 (rd ra : Reg)
  | nz8h2 (rd ra rb : Reg)
  | nz8h3 (rd ra rb rc : Reg)
  /- Sequencer (42_sequencer.md). `showS` is the table's SHOW (a scale is given). -/
  | showS (ra : Reg)
  | showG
  | showC (ra rb : Reg)
  | showCG (ra : Reg)
  | setrate (ra : Reg)
  | setratec (ra : Reg)
  | delay (ra : Reg)
  deriving DecidableEq, Repr

end Sys2Proof
end

