-- ==== Sys2Proof/Decode.lean ====
section
/-! DEFINITION. The opcode map of 30_encoding.md R86, the decoder of R87, the encoder of R91. -/

namespace Sys2Proof

/-- The rows of the opcode map (R86), named as their commands. -/
inductive Op
  | nop | ldi | ldih | mov | csrr | csrw | scale8 | scale8v
  | scale16 | qadd8 | avg7 | avg15 | lerp7 | lerp15 | ease8 | ease16
  | plut | nz16r1 | nz16r2 | nz16r3 | nz16r4 | nz16u1 | nz16u2 | nz16u3
  | nz16u4 | nz8r1 | nz8r2 | nz8r3 | nz8u1 | nz8u2 | nz8u3 | nz8h1
  | nz8h2 | nz8h3 | showS | showG | showC | showCG | setrate | setratec
  | delay
  deriving DecidableEq, Repr

/-- Column "op" of R86: the opcode byte. -/
def Op.code : Op → Nat
  | .nop => 0x00
  | .ldi => 0x01
  | .ldih => 0x02
  | .mov => 0x03
  | .csrr => 0x08
  | .csrw => 0x09
  | .scale8 => 0x10
  | .scale8v => 0x11
  | .scale16 => 0x12
  | .qadd8 => 0x13
  | .avg7 => 0x14
  | .avg15 => 0x15
  | .lerp7 => 0x16
  | .lerp15 => 0x17
  | .ease8 => 0x18
  | .ease16 => 0x19
  | .plut => 0x20
  | .nz16r1 => 0x21
  | .nz16r2 => 0x22
  | .nz16r3 => 0x23
  | .nz16r4 => 0x24
  | .nz16u1 => 0x25
  | .nz16u2 => 0x26
  | .nz16u3 => 0x27
  | .nz16u4 => 0x28
  | .nz8r1 => 0x31
  | .nz8r2 => 0x32
  | .nz8r3 => 0x33
  | .nz8u1 => 0x35
  | .nz8u2 => 0x36
  | .nz8u3 => 0x37
  | .nz8h1 => 0x39
  | .nz8h2 => 0x3A
  | .nz8h3 => 0x3B
  | .showS => 0x40
  | .showG => 0x41
  | .showC => 0x42
  | .showCG => 0x43
  | .setrate => 0x44
  | .setratec => 0x45
  | .delay => 0x46

/-- The row with a given opcode byte, if there is one (R87). -/
def Op.ofCode : Nat → Option Op
  | 0x00 => some .nop
  | 0x01 => some .ldi
  | 0x02 => some .ldih
  | 0x03 => some .mov
  | 0x08 => some .csrr
  | 0x09 => some .csrw
  | 0x10 => some .scale8
  | 0x11 => some .scale8v
  | 0x12 => some .scale16
  | 0x13 => some .qadd8
  | 0x14 => some .avg7
  | 0x15 => some .avg15
  | 0x16 => some .lerp7
  | 0x17 => some .lerp15
  | 0x18 => some .ease8
  | 0x19 => some .ease16
  | 0x20 => some .plut
  | 0x21 => some .nz16r1
  | 0x22 => some .nz16r2
  | 0x23 => some .nz16r3
  | 0x24 => some .nz16r4
  | 0x25 => some .nz16u1
  | 0x26 => some .nz16u2
  | 0x27 => some .nz16u3
  | 0x28 => some .nz16u4
  | 0x31 => some .nz8r1
  | 0x32 => some .nz8r2
  | 0x33 => some .nz8r3
  | 0x35 => some .nz8u1
  | 0x36 => some .nz8u2
  | 0x37 => some .nz8u3
  | 0x39 => some .nz8h1
  | 0x3A => some .nz8h2
  | 0x3B => some .nz8h3
  | 0x40 => some .showS
  | 0x41 => some .showG
  | 0x42 => some .showC
  | 0x43 => some .showCG
  | 0x44 => some .setrate
  | 0x45 => some .setratec
  | 0x46 => some .delay
  | _ => none

/-- Column "mask" of R86: the opcode byte and every must-be-zero field. -/
def Op.mask : Op → Word
  | .nop => 0xFFFFFFFF#32
  | .ldi => 0xF00000FF#32
  | .ldih => 0xF00000FF#32
  | .mov => 0xFFFF00FF#32
  | .csrr => 0xFF00F0FF#32
  | .csrw => 0xFF000FFF#32
  | .scale8 => 0xFFF000FF#32
  | .scale8v => 0xFFF000FF#32
  | .scale16 => 0xFFF000FF#32
  | .qadd8 => 0xFFF000FF#32
  | .avg7 => 0xFFF000FF#32
  | .avg15 => 0xFFF000FF#32
  | .lerp7 => 0xFF0000FF#32
  | .lerp15 => 0xFF0000FF#32
  | .ease8 => 0xFFFF00FF#32
  | .ease16 => 0xFFFF00FF#32
  | .plut => 0xFFFF00FF#32
  | .nz16r1 => 0xFFFF00FF#32
  | .nz16r2 => 0xFFF000FF#32
  | .nz16r3 => 0xFF0000FF#32
  | .nz16r4 => 0xF00000FF#32
  | .nz16u1 => 0xFFFF00FF#32
  | .nz16u2 => 0xFFF000FF#32
  | .nz16u3 => 0xFF0000FF#32
  | .nz16u4 => 0xF00000FF#32
  | .nz8r1 => 0xFFFF00FF#32
  | .nz8r2 => 0xFFF000FF#32
  | .nz8r3 => 0xFF0000FF#32
  | .nz8u1 => 0xFFFF00FF#32
  | .nz8u2 => 0xFFF000FF#32
  | .nz8u3 => 0xFF0000FF#32
  | .nz8h1 => 0xFFFF00FF#32
  | .nz8h2 => 0xFFF000FF#32
  | .nz8h3 => 0xFF0000FF#32
  | .showS => 0xFFFF0FFF#32
  | .showG => 0xFFFFFFFF#32
  | .showC => 0xFFF00FFF#32
  | .showCG => 0xFFFF0FFF#32
  | .setrate => 0xFFFF0FFF#32
  | .setratec => 0xFFFF0FFF#32
  | .delay => 0xFFFF0FFF#32

/-- Column "match" of R86. -/
def Op.pattern (o : Op) : Word := BitVec.ofNat 32 o.code

/-! ### Fields (R81 to R83) -/

/-- Bits 7:0. -/
def fieldOp (w : Word) : Byte := w.extractLsb' 0 8
/-- Bits 11:8. -/
def fieldRd (w : Word) : Reg := (w.extractLsb' 8 4).toFin
/-- Bits 15:12. -/
def fieldRa (w : Word) : Reg := (w.extractLsb' 12 4).toFin
/-- Bits 19:16. -/
def fieldRb (w : Word) : Reg := (w.extractLsb' 16 4).toFin
/-- Bits 23:20. -/
def fieldRc (w : Word) : Reg := (w.extractLsb' 20 4).toFin
/-- Bits 27:24. -/
def fieldRe (w : Word) : Reg := (w.extractLsb' 24 4).toFin
/-- Bits 27:12, format I. -/
def fieldImm (w : Word) : Half := w.extractLsb' 12 16
/-- Bits 23:16, format C. -/
def fieldCsr (w : Word) : Byte := w.extractLsb' 16 8

/-- The command of a row with the fields of a word (R86 column "fields used"; R91 operand order). -/
def Op.build (o : Op) (w : Word) : Instr :=
  match o with
  | .nop => .nop
  | .ldi => .ldi (fieldRd w) (fieldImm w)
  | .ldih => .ldih (fieldRd w) (fieldImm w)
  | .mov => .mov (fieldRd w) (fieldRa w)
  | .csrr => .csrr (fieldRd w) (fieldCsr w)
  | .csrw => .csrw (fieldCsr w) (fieldRa w)
  | .scale8 => .scale8 (fieldRd w) (fieldRa w) (fieldRb w)
  | .scale8v => .scale8v (fieldRd w) (fieldRa w) (fieldRb w)
  | .scale16 => .scale16 (fieldRd w) (fieldRa w) (fieldRb w)
  | .qadd8 => .qadd8 (fieldRd w) (fieldRa w) (fieldRb w)
  | .avg7 => .avg7 (fieldRd w) (fieldRa w) (fieldRb w)
  | .avg15 => .avg15 (fieldRd w) (fieldRa w) (fieldRb w)
  | .lerp7 => .lerp7 (fieldRd w) (fieldRa w) (fieldRb w) (fieldRc w)
  | .lerp15 => .lerp15 (fieldRd w) (fieldRa w) (fieldRb w) (fieldRc w)
  | .ease8 => .ease8 (fieldRd w) (fieldRa w)
  | .ease16 => .ease16 (fieldRd w) (fieldRa w)
  | .plut => .plut (fieldRd w) (fieldRa w)
  | .nz16r1 => .nz16r1 (fieldRd w) (fieldRa w)
  | .nz16r2 => .nz16r2 (fieldRd w) (fieldRa w) (fieldRb w)
  | .nz16r3 => .nz16r3 (fieldRd w) (fieldRa w) (fieldRb w) (fieldRc w)
  | .nz16r4 => .nz16r4 (fieldRd w) (fieldRa w) (fieldRb w) (fieldRc w) (fieldRe w)
  | .nz16u1 => .nz16u1 (fieldRd w) (fieldRa w)
  | .nz16u2 => .nz16u2 (fieldRd w) (fieldRa w) (fieldRb w)
  | .nz16u3 => .nz16u3 (fieldRd w) (fieldRa w) (fieldRb w) (fieldRc w)
  | .nz16u4 => .nz16u4 (fieldRd w) (fieldRa w) (fieldRb w) (fieldRc w) (fieldRe w)
  | .nz8r1 => .nz8r1 (fieldRd w) (fieldRa w)
  | .nz8r2 => .nz8r2 (fieldRd w) (fieldRa w) (fieldRb w)
  | .nz8r3 => .nz8r3 (fieldRd w) (fieldRa w) (fieldRb w) (fieldRc w)
  | .nz8u1 => .nz8u1 (fieldRd w) (fieldRa w)
  | .nz8u2 => .nz8u2 (fieldRd w) (fieldRa w) (fieldRb w)
  | .nz8u3 => .nz8u3 (fieldRd w) (fieldRa w) (fieldRb w) (fieldRc w)
  | .nz8h1 => .nz8h1 (fieldRd w) (fieldRa w)
  | .nz8h2 => .nz8h2 (fieldRd w) (fieldRa w) (fieldRb w)
  | .nz8h3 => .nz8h3 (fieldRd w) (fieldRa w) (fieldRb w) (fieldRc w)
  | .showS => .showS (fieldRa w)
  | .showG => .showG
  | .showC => .showC (fieldRa w) (fieldRb w)
  | .showCG => .showCG (fieldRa w)
  | .setrate => .setrate (fieldRa w)
  | .setratec => .setratec (fieldRa w)
  | .delay => .delay (fieldRa w)

/-! ### The decoder -/

/-- Why a word is no command (R87, R88). -/
inductive DecodeReject
  /-- The opcode byte is in no row of R86. -/
  | unknownOpcode (op : Byte)
  /-- The row of the opcode has a must-be-zero field that is not zero. -/
  | nonzeroField (row : Op)
  /-- A byte stream ends inside a word. -/
  | truncated
  deriving DecidableEq, Repr

/-- R87, total on all words: the row of the opcode byte, then mask and match, then the fields. -/
def decodeWord (w : Word) : Except DecodeReject Instr :=
  match Op.ofCode (fieldOp w).toNat with
  | none => .error (.unknownOpcode (fieldOp w))
  | some o => if w &&& o.mask = o.pattern then .ok (o.build w) else .error (.nonzeroField o)

/-- A word from a byte stream, the opcode byte first (20_memory.md R63, log 15). -/
def decodeBytes : List Byte → Except DecodeReject (Instr × List Byte)
  | b0 :: b1 :: b2 :: b3 :: rest =>
    match decodeWord (b3 ++ b2 ++ b1 ++ b0) with
    | .ok i => .ok (i, rest)
    | .error e => .error e
  | _ => .error .truncated

/-- The four bytes of a word in a byte stream (20_memory.md R63, log 15). -/
def bytesOfWord (w : Word) : List Byte :=
  [w.extractLsb' 0 8, w.extractLsb' 8 8, w.extractLsb' 16 8, w.extractLsb' 24 8]

/-- The command the decoder reads from a word given as the opcode table numbers its bits; bits from
`nbits` on are 0. -/
def decodeTableWord (nbits w : Nat) : Option Instr :=
  match decodeBytes (bytesOfWord (BitVec.ofNat 32 (w % 2 ^ nbits))) with
  | .ok (i, _) => some i
  | .error _ => none

/-! ### The encoder -/

/-- A register number as a 4-bit field. -/
def regField (r : Reg) : BitVec 4 := BitVec.ofFin r

/-- Format R (R81). -/
def formatR (o : Op) (rd ra rb rc re : Reg) : Word :=
  0#4 ++ regField re ++ regField rc ++ regField rb ++ regField ra ++ regField rd ++ BitVec.ofNat 8 o.code

/-- Format I (R82). -/
def formatI (o : Op) (rd : Reg) (imm16 : Half) : Word :=
  0#4 ++ imm16 ++ regField rd ++ BitVec.ofNat 8 o.code

/-- Format C (R83). -/
def formatC (o : Op) (rd ra : Reg) (csr : Byte) : Word :=
  0#8 ++ csr ++ regField ra ++ regField rd ++ BitVec.ofNat 8 o.code

/-- The word of a command (R91): absent fields are 0. -/
def encode : Instr → Word
  | .nop => formatR .nop 0 0 0 0 0
  | .ldi rd imm16 => formatI .ldi rd imm16
  | .ldih rd imm16 => formatI .ldih rd imm16
  | .mov rd ra => formatR .mov rd ra 0 0 0
  | .csrr rd csr => formatC .csrr rd 0 csr
  | .csrw csr ra => formatC .csrw 0 ra csr
  | .scale8 rd ra rb => formatR .scale8 rd ra rb 0 0
  | .scale8v rd ra rb => formatR .scale8v rd ra rb 0 0
  | .scale16 rd ra rb => formatR .scale16 rd ra rb 0 0
  | .qadd8 rd ra rb => formatR .qadd8 rd ra rb 0 0
  | .avg7 rd ra rb => formatR .avg7 rd ra rb 0 0
  | .avg15 rd ra rb => formatR .avg15 rd ra rb 0 0
  | .lerp7 rd ra rb rc => formatR .lerp7 rd ra rb rc 0
  | .lerp15 rd ra rb rc => formatR .lerp15 rd ra rb rc 0
  | .ease8 rd ra => formatR .ease8 rd ra 0 0 0
  | .ease16 rd ra => formatR .ease16 rd ra 0 0 0
  | .plut rd ra => formatR .plut rd ra 0 0 0
  | .nz16r1 rd ra => formatR .nz16r1 rd ra 0 0 0
  | .nz16r2 rd ra rb => formatR .nz16r2 rd ra rb 0 0
  | .nz16r3 rd ra rb rc => formatR .nz16r3 rd ra rb rc 0
  | .nz16r4 rd ra rb rc re => formatR .nz16r4 rd ra rb rc re
  | .nz16u1 rd ra => formatR .nz16u1 rd ra 0 0 0
  | .nz16u2 rd ra rb => formatR .nz16u2 rd ra rb 0 0
  | .nz16u3 rd ra rb rc => formatR .nz16u3 rd ra rb rc 0
  | .nz16u4 rd ra rb rc re => formatR .nz16u4 rd ra rb rc re
  | .nz8r1 rd ra => formatR .nz8r1 rd ra 0 0 0
  | .nz8r2 rd ra rb => formatR .nz8r2 rd ra rb 0 0
  | .nz8r3 rd ra rb rc => formatR .nz8r3 rd ra rb rc 0
  | .nz8u1 rd ra => formatR .nz8u1 rd ra 0 0 0
  | .nz8u2 rd ra rb => formatR .nz8u2 rd ra rb 0 0
  | .nz8u3 rd ra rb rc => formatR .nz8u3 rd ra rb rc 0
  | .nz8h1 rd ra => formatR .nz8h1 rd ra 0 0 0
  | .nz8h2 rd ra rb => formatR .nz8h2 rd ra rb 0 0
  | .nz8h3 rd ra rb rc => formatR .nz8h3 rd ra rb rc 0
  | .showS ra => formatR .showS 0 ra 0 0 0
  | .showG => formatR .showG 0 0 0 0 0
  | .showC ra rb => formatR .showC 0 ra rb 0 0
  | .showCG ra => formatR .showCG 0 ra 0 0 0
  | .setrate ra => formatR .setrate 0 ra 0 0 0
  | .setratec ra => formatR .setratec 0 ra 0 0 0
  | .delay ra => formatR .delay 0 ra 0 0 0

/-- The row of a command. -/
def Instr.op : Instr → Op
  | .nop => .nop
  | .ldi _ _ => .ldi
  | .ldih _ _ => .ldih
  | .mov _ _ => .mov
  | .csrr _ _ => .csrr
  | .csrw _ _ => .csrw
  | .scale8 _ _ _ => .scale8
  | .scale8v _ _ _ => .scale8v
  | .scale16 _ _ _ => .scale16
  | .qadd8 _ _ _ => .qadd8
  | .avg7 _ _ _ => .avg7
  | .avg15 _ _ _ => .avg15
  | .lerp7 _ _ _ _ => .lerp7
  | .lerp15 _ _ _ _ => .lerp15
  | .ease8 _ _ => .ease8
  | .ease16 _ _ => .ease16
  | .plut _ _ => .plut
  | .nz16r1 _ _ => .nz16r1
  | .nz16r2 _ _ _ => .nz16r2
  | .nz16r3 _ _ _ _ => .nz16r3
  | .nz16r4 _ _ _ _ _ => .nz16r4
  | .nz16u1 _ _ => .nz16u1
  | .nz16u2 _ _ _ => .nz16u2
  | .nz16u3 _ _ _ _ => .nz16u3
  | .nz16u4 _ _ _ _ _ => .nz16u4
  | .nz8r1 _ _ => .nz8r1
  | .nz8r2 _ _ _ => .nz8r2
  | .nz8r3 _ _ _ _ => .nz8r3
  | .nz8u1 _ _ => .nz8u1
  | .nz8u2 _ _ _ => .nz8u2
  | .nz8u3 _ _ _ _ => .nz8u3
  | .nz8h1 _ _ => .nz8h1
  | .nz8h2 _ _ _ => .nz8h2
  | .nz8h3 _ _ _ _ => .nz8h3
  | .showS _ => .showS
  | .showG => .showG
  | .showC _ _ => .showC
  | .showCG _ => .showCG
  | .setrate _ => .setrate
  | .setratec _ => .setratec
  | .delay _ => .delay

end Sys2Proof
end

