-- ==== Sys2Proof/Machine/Arith.lean ====
section
/-! DEFINITION. The named functions of the math kernel (41_alu.md R121), over the integers as R8 of
00_scope.md has it. The ALU commands and the noise kernel share them. -/

namespace Sys2Proof.Machine

/-- `(v * s) >> 8`. -/
def scale8 (v s : Nat) : Nat := v * s / 256

/-- The video variant: never 0 for nonzero operands (92_eei_decisions.md D11). -/
def scale8v (v s : Nat) : Nat := if v = 0 ∨ s = 0 then 0 else scale8 v s + 1

/-- `(v * s) >> 16`. -/
def scale16 (v s : Nat) : Nat := v * s / 65536

/-- Saturating add. -/
def qadd8 (a b : Nat) : Nat := min 255 (a + b)

/-- `floor((a + b) / 2)` of 8-bit signed operands. Lean's `/` by 2 rounds toward minus infinity. -/
def avg7 (a b : Int) : Int := (a + b) / 2

/-- `floor((a + b) / 2)` of 16-bit signed operands. -/
def avg15 (a b : Int) : Int := (a + b) / 2

/-- The lerps' common shape: the magnitude of the difference is scaled and its sign carried
(92_eei_decisions.md D12). -/
def lerpBy (scale : Nat → Nat → Nat) (a b : Int) (f : Nat) : Int :=
  if a ≤ b then a + scale (b - a).toNat f else a - scale (a - b).toNat f

/-- The 8-bit lerp. -/
def lerp7by8 (a b : Int) (f : Nat) : Int := lerpBy scale8 a b f

/-- The 16-bit lerp. -/
def lerp15by16 (a b : Int) (f : Nat) : Int := lerpBy scale16 a b f

/-- The 8-bit quadratic ease (92_eei_decisions.md D13). -/
def ease8 (i : Nat) : Nat :=
  let j := if i < 128 then i else 255 - i
  let jj2 := scale8 j j * 2 % 256
  if i < 128 then jj2 else 255 - jj2

/-- The 16-bit quadratic ease (92_eei_decisions.md D13). -/
def ease16 (i : Nat) : Nat :=
  let j := if i < 32768 then i else 65535 - i
  let jj2 := scale16 j j * 2 % 65536
  if i < 32768 then jj2 else 65535 - jj2

end Sys2Proof.Machine
end

