-- ==== Sys2Proof/Config.lean ====
section
/-! DEFINITION. The implementation parameters of 00_scope.md R6 and the free values of the environment. -/

namespace Sys2Proof

/-- Which fade the noise kernel applies (43_noise_kernel.md R197). -/
inductive EaseSel
  | quad
  | legacy
  deriving DecidableEq, Repr

/-- The parameter `GRAD4` (43_noise_kernel.md R204). `standard` is the default of R205; `custom k` is
some other function of the hash and the four coordinates, one for each `k` (log 3). -/
inductive Grad4Sel
  | standard
  | custom (k : Nat)
  deriving DecidableEq, Repr

/-- A memory as a list of (address, byte) pairs in the canonical form of `Memory.wf`. The only memory of
FLCORE is the permutation ROM (20_memory.md R60, R61). -/
abbrev Memory := List Host.Cell

/-- The parameters of 00_scope.md R6. They are fixed for the life of a block; no step changes them (log 1). -/
structure Params where
  /-- `MAX_CONTROLLERS`, 1..256. -/
  maxControllers : Nat
  /-- `EASE_SEL`. -/
  easeSel : EaseSel
  /-- `MANUAL_EVENTS`: suppresses event codes 1 and 3. -/
  manualEvents : Bool
  /-- `ACCURATE_CLOCK`: removes the 1 ms wait inside `DELAY`. -/
  accurateClock : Bool
  /-- `PERM`: the cells of the permutation ROM that differ from `PERM_CLASSIC` (log 2). -/
  perm : Memory
  /-- `GRAD4`. -/
  grad4 : Grad4Sel
  deriving DecidableEq, Repr

/-- The default of every parameter (00_scope.md R6). -/
def Params.standard : Params where
  maxControllers := 64
  easeSel := .quad
  manualEvents := false
  accurateClock := false
  perm := []
  grad4 := .standard

/-- A `GRAD4` other than the default: any function of its arguments (R204, 92_eei_decisions.md D23).
Free: nothing constrains it (log 3). -/
opaque Config.customGrad4 : Nat → Byte → Half → Half → Half → Half → Half

/-- What the environment answers at the `k`-th free draw: a value, or `none` for no answer in that step
(20_memory.md R71 to R73; 93_implementation_defined.md U12 to U15). Free: nothing constrains it (log 4). -/
opaque Config.answer : Nat → Option Word

end Sys2Proof
end

