-- ==== Sys2Proof/Machine/State.lean ====
section
/-! DEFINITION. The state of FLCORE (10_state.md), the sequencer's states (42_sequencer.md R145), what is
observed at the ports, the reset state. -/

namespace Sys2Proof.Machine

/-- Nothing stops FLCORE: "there is no other fault, trap, exception or abort" (60_exceptions.md R260), and the
two refusals of R260 are ordinary next states. So there is no fault to name. -/
inductive Fault
  deriving DecidableEq, Repr

/-- Why the model does not run a command. -/
inductive Refusal
  /-- Raised by `exec` alone, for a command without a meaning yet. Safe: the model stops. No arm raises it now. -/
  | notModelled (mnemonic : String)
  deriving DecidableEq, Repr

/-- One observation at the block's ports (20_memory.md R71 to R73; 92_eei_decisions.md D2; the trace notation
of 95_test_vectors.md). -/
inductive IoEvent
  /-- `CTL(kind, idx, a, b) -> r`, the five fields as R71 gives them; `kind` by its number. -/
  | ctl (kind : BitVec 3) (idx : Byte) (a : Word) (b : Byte) (r : Word)
  /-- `PWR(scale, data) -> scale'`. -/
  | pwr (scale : Byte) (data : Word) (scale' : Byte)
  /-- `EVT(code)`, acknowledged; `code` by its number. -/
  | evt (code : BitVec 2)
  /-- `YLD`, acknowledged. -/
  | yld
  /-- A sample of `TIME_US`. -/
  | us (v : Word)
  /-- A sample of `TIME_MS`. -/
  | ms (v : Word)
  /-- The response `(status, data)` of a command. -/
  | respond (status : Byte) (data : Word)
  deriving DecidableEq, Repr

/-- The kind of a frame (42_sequencer.md R141). -/
inductive FrameKind
  | leds
  | color
  deriving DecidableEq, Repr

/-- `DELAY`'s variables that outlive one frame (10_state.md R42, 42_sequencer.md R165). -/
structure DelayCtx where
  start : Word
  ms : Word
  deriving DecidableEq, Repr

/-- The inputs of a frame (42_sequencer.md R141), and the `DELAY` it belongs to, if any. -/
structure Frame where
  kind : FrameKind
  color : Color
  scale : Byte
  delay : Option DelayCtx
  deriving DecidableEq, Repr

/-- The states of SEQ (42_sequencer.md R145) with the frame-local variables of 10_state.md R42. Each is left
by one step. `FA(i)` is split at its transactions (R144, R151; log 9). -/
inductive SeqState
  /-- `IDLE`. -/
  | idle
  /-- `DL0`: about to sample `start` (R165). -/
  | delayStart (ms : Word)
  /-- The head of the `DELAY` loop: about to sample `m0`, or to begin the frame (R165, R166). -/
  | delayTop (d : DelayCtx)
  /-- `Sleep1ms`: about to sample `m` (R166). -/
  | delaySleep (d : DelayCtx) (m0 : Word)
  /-- About to perform `EVT(1)` (R147). -/
  | f1 (f : Frame)
  /-- The refresh-rate floor (R148). -/
  | f2w (f : Frame)
  /-- About to sample the stamp (R149). -/
  | f2s (f : Frame)
  /-- Power scaling (R150). -/
  | f3 (f : Frame)
  /-- Pass A, about to ask controller `i` whether it is enabled (R151). -/
  | fa (f : Frame) (n i : Nat)
  /-- Pass A, about to ask the size of controller `i` (R151). -/
  | faSize (f : Frame) (n i : Nat)
  /-- Pass A, about to begin controller `i` with its size (R151). -/
  | faBegin (f : Frame) (n i : Nat) (size : Half)
  /-- Pass A, the dither gate of controller `i` (R152). -/
  | faDither (f : Frame) (n i : Nat)
  /-- Pass B, controller `i` (R154). -/
  | fb (f : Frame) (n i : Nat)
  /-- Pass C, controller `i` (R155). -/
  | fc (f : Frame) (n i : Nat)
  /-- The FPS estimator (R158). -/
  | f7 (f : Frame)
  /-- About to perform `EVT(2)` (R157). -/
  | f8a (f : Frame)
  /-- About to perform `EVT(3)` (R157). -/
  | f8b (f : Frame)
  /-- After a frame inside `DELAY`: about to perform `YLD` (R165). -/
  | delayYield (d : DelayCtx)
  /-- About to sample `now` and test the end of `DELAY` (R165). -/
  | delayTest (d : DelayCtx)
  deriving DecidableEq, Repr

/-- The state of FLCORE (10_state.md R20), its parameters (00_scope.md R6), and the environment's side of its
interface (R44) as plain data. -/
structure State where
  /-- `g0` .. `g15` (R21). -/
  g : Vector Word 16
  /-- `ERR` bit 0, `ILL` (R30). -/
  errIll : Bool
  /-- `ERR` bit 1, `CSRE` (R30). -/
  errCsre : Bool
  /-- `GSCALE` (R31). -/
  gscale : Byte
  /-- `MINMICROS` (R32). -/
  minMicros : Word
  /-- `LASTSHOW` (R33). -/
  lastShow : Word
  /-- `NFRAMES` (R34). -/
  nFrames : Half
  /-- `FPS` (R35). -/
  fps : Word
  /-- `FRAMECNT` (R36). -/
  frameCnt : Half
  /-- `LASTMARK` (R37). -/
  lastMark : Word
  /-- `NCTRL` (R38). -/
  nCtrl : Half
  /-- `PWRCTL.EN` (R39). -/
  pwrEn : Bool
  /-- `PWRDATA` (R40). -/
  pwrData : Word
  /-- `TOK[]`, `maxControllers` tokens (R42). -/
  tok : List Word
  /-- `ENL[]`, `maxControllers` bits (R42). -/
  enl : List Bool
  /-- What SEQ is doing (R46; 42_sequencer.md R145). -/
  seq : SeqState
  /-- The parameters, `PERM` among them (R43, R44; log 1). -/
  params : Params
  /-- The command words the host has still to send (R22; log 6). -/
  cmds : List Word
  /-- The index of the next command word (R22). -/
  pc : Nat
  /-- The environment's coming answers, `none` for no answer in a step (log 4). -/
  answers : List (Option Word)
  /-- The number of free answers drawn so far (log 4). -/
  drawIx : Nat
  /-- The reset input in the coming steps (R45; log 8). -/
  resetIn : List Bool
  /-- What has been observed at the ports, oldest first (R44; log 5). -/
  log : List IoEvent
  deriving DecidableEq, Repr

/-- The state after reset of a block built with given parameters: the table of 10_state.md R45. -/
def State.resetOf (p : Params) : State where
  g := Vector.replicate 16 0
  errIll := false
  errCsre := false
  gscale := 255
  minMicros := 0
  lastShow := 0
  nFrames := 25
  fps := 0
  frameCnt := 0
  lastMark := 0
  nCtrl := 0
  pwrEn := false
  pwrData := 0
  tok := List.replicate p.maxControllers 0
  enl := List.replicate p.maxControllers false
  seq := .idle
  params := p
  cmds := []
  pc := 0
  answers := []
  drawIx := 0
  resetIn := []
  log := []

/-- The state right after reset, with the default parameters (R45; 00_scope.md R6). -/
def State.reset : State := State.resetOf Params.standard

end Sys2Proof.Machine
end

