-- ==== Sys2Proof/Machine/Flags.lean ====
section
/-! DEFINITION. FLCORE has no flags (10_state.md R23). Its only sticky bits are those of `ERR` (R30). -/

namespace Sys2Proof.Machine

/-- The two causes of a refused command (60_exceptions.md R260). -/
inductive IllegalCause
  | command
  | csr
  deriving DecidableEq, Repr

/-- The status of the response to a refused command (R260). -/
def IllegalCause.status : IllegalCause → Byte
  | .command => 1
  | .csr => 2

/-- `ERR.ILL <- 1` or `ERR.CSRE <- 1`; the other bit keeps its value (10_state.md R30). -/
def State.setErr (s : State) : IllegalCause → State
  | .command => { s with errIll := true }
  | .csr => { s with errCsre := true }

/-- `ERR` as it is read: bits 31:2 are 0 (10_state.md R30). -/
def State.errWord (s : State) : Word := 0#30 ++ BitVec.ofBool s.errCsre ++ BitVec.ofBool s.errIll

end Sys2Proof.Machine
end

