-- ==== Sys2Proof/Machine/Ops.lean ====
section
/-! DEFINITION. The named operations over FLCORE's state: registers, responses, the refusal of a command,
control registers, port transactions. -/

namespace Sys2Proof.Machine

/-! ### General registers (10_state.md R21) -/

/-- `g[r]`. -/
def State.reg (s : State) (r : Reg) : Word := s.g[r]

/-- `g[r] <- v`. -/
def State.setReg (s : State) (r : Reg) (v : Word) : State := { s with g := s.g.set r v }

/-! ### Responses and refusals -/

/-- One more observation at the ports. -/
def State.record (s : State) (e : IoEvent) : State := { s with log := s.log ++ [e] }

/-- `respond(d)` (00_scope.md R9). -/
def State.respond (s : State) (d : Word) : State := s.record (.respond 0 d)

/-- `g[rd] <- v; respond(v)`: how every command with an `rd` field ends (92_eei_decisions.md D47). -/
def State.writeResult (s : State) (rd : Reg) (v : Word) : State := (s.setReg rd v).respond v

/-- `raise ILLEGAL(c)` (60_exceptions.md R261): FLCORE's one way of not doing what a command says. It sets
the `ERR` bit of the cause, answers `(c, 0)` and changes nothing else; there is no entry, no handler and
nothing to return from (R268). -/
def State.raiseIllegal (s : State) (c : IllegalCause) : State := (s.setErr c).record (.respond c.status 0)

/-! ### Control and status registers (10_state.md R25 to R41) -/

/-- The control registers of R27. -/
inductive Csr
  | id
  | cfg
  | err
  | maxctrl
  | gscale
  | minmicros
  | lastshow
  | nframes
  | fps
  | framecnt
  | lastmark
  | nctrl
  | pwrctl
  | pwrdata
  deriving DecidableEq, Repr

/-- Column "number" of R27; every other number does not exist. -/
def Csr.ofNumber : Nat → Option Csr
  | 0x00 => some .id
  | 0x01 => some .cfg
  | 0x02 => some .err
  | 0x03 => some .maxctrl
  | 0x10 => some .gscale
  | 0x11 => some .minmicros
  | 0x12 => some .lastshow
  | 0x13 => some .nframes
  | 0x14 => some .fps
  | 0x15 => some .framecnt
  | 0x16 => some .lastmark
  | 0x17 => some .nctrl
  | 0x18 => some .pwrctl
  | 0x19 => some .pwrdata
  | _ => none

/-- `CFG` as the parameters give it (R29). -/
def cfgWord (p : Params) : Word :=
  0#29 ++ BitVec.ofBool p.accurateClock ++ BitVec.ofBool p.manualEvents
    ++ BitVec.ofBool (decide (p.easeSel = .legacy))

/-- The value of a control register, zero-extended (R26, R28 to R41). -/
def State.readCsr (s : State) : Csr → Word
  | .id => 0x464C0700
  | .cfg => cfgWord s.params
  | .err => s.errWord
  | .maxctrl => BitVec.ofNat 32 s.params.maxControllers
  | .gscale => s.gscale.setWidth 32
  | .minmicros => s.minMicros
  | .lastshow => s.lastShow
  | .nframes => s.nFrames.setWidth 32
  | .fps => s.fps
  | .framecnt => s.frameCnt.setWidth 32
  | .lastmark => s.lastMark
  | .nctrl => s.nCtrl.setWidth 32
  | .pwrctl => 0#31 ++ BitVec.ofBool s.pwrEn
  | .pwrdata => s.pwrData

/-- A host write of a control register: the low bits are kept (R26); `none` for a read-only register
(R27 column "access"). -/
def State.writeCsr (s : State) (v : Word) : Csr → Option State
  | .gscale => some { s with gscale := v.setWidth 8 }
  | .minmicros => some { s with minMicros := v }
  | .nframes => some { s with nFrames := v.setWidth 16 }
  | .nctrl => some { s with nCtrl := v.setWidth 16 }
  | .pwrctl => some { s with pwrEn := v.getLsbD 0 }
  | .pwrdata => some { s with pwrData := v }
  | .id => none
  | .cfg => none
  | .err => none
  | .maxctrl => none
  | .lastshow => none
  | .fps => none
  | .framecnt => none
  | .lastmark => none

/-! ### The sequencer's arrays (10_state.md R42) and its place -/

/-- SEQ goes to a state of R145. -/
def State.goto (s : State) (q : SeqState) : State := { s with seq := q }

/-- `ENL[i]`. -/
def State.enabled (s : State) (i : Nat) : Bool := s.enl.getD i false

/-- `TOK[i]`. -/
def State.token (s : State) (i : Nat) : Word := s.tok.getD i 0

/-- `ENL[i] <- b`. -/
def State.setEnabled (s : State) (i : Nat) (b : Bool) : State := { s with enl := s.enl.set i b }

/-- `TOK[i] <- t`. -/
def State.setToken (s : State) (i : Nat) (t : Word) : State := { s with tok := s.tok.set i t }

/-! ### Port transactions (20_memory.md R71 to R73) -/

/-- The kinds of a `CTL` transaction (20_memory.md R71). -/
inductive CtlKind
  | qEnabled
  | qSize
  | beginShow
  | setDither
  | emit
  | emitColor
  | endShow
  deriving DecidableEq, Repr

/-- Column `kind` of R71: the 3-bit field of the request. No kind is 7. -/
def CtlKind.number : CtlKind → BitVec 3
  | .qEnabled => 0
  | .qSize => 1
  | .beginShow => 2
  | .setDither => 3
  | .emit => 4
  | .emitColor => 5
  | .endShow => 6

/-- The events of the `EVT` port (20_memory.md R72). -/
inductive EvtCode
  | beginFrame
  | endFrame
  | endShowLeds
  deriving DecidableEq, Repr

/-- `code[1:0]` of R72. No event is 0. -/
def EvtCode.number : EvtCode → BitVec 2
  | .beginFrame => 1
  | .endFrame => 2
  | .endShowLeds => 3

/-- The environment's next answer: the next one it has ready, else a free one (log 4). -/
def State.nextAnswer (s : State) : Option Word :=
  match s.answers with
  | a :: _ => a
  | [] => Config.answer s.drawIx

/-- The state when the environment's next answer has been used. -/
def State.dropAnswer (s : State) : State :=
  match s.answers with
  | _ :: rest => { s with answers := rest }
  | [] => { s with drawIx := s.drawIx + 1 }

/-- One transaction or sample: when the environment answers `r` it is observed as `e r` and SEQ goes on
with `k r`; when it does not, SEQ waits where it is (42_sequencer.md R144; 70_reset_and_hazards.md R299). -/
def State.transact (s : State) (e : Word → IoEvent) (k : Word → State → State) : State :=
  match s.nextAnswer with
  | none => s.dropAnswer
  | some r => k r (s.dropAnswer.record (e r))

/-- A transaction with controller `i` (20_memory.md R71). -/
def State.ctl (s : State) (kind : CtlKind) (i : Nat) (a : Word) (b : Byte) (k : Word → State → State) : State :=
  s.transact (fun r => .ctl kind.number (BitVec.ofNat 8 i) a b r) k

/-- An event, acknowledged with no data (20_memory.md R72). -/
def State.event (s : State) (code : EvtCode) (k : State → State) : State :=
  s.transact (fun _ => .evt code.number) fun _ => k

/-! ### Reset (10_state.md R45; 70_reset_and_hazards.md R290 to R292) -/

/-- Reset: the block is as after reset, a running command is abandoned without a response or a further
transaction (R291); what belongs to the environment stays (log 8). -/
def State.applyReset (s : State) : State :=
  { State.resetOf s.params with
    cmds := s.cmds
    pc := s.pc
    answers := s.answers
    drawIx := s.drawIx
    resetIn := s.resetIn
    log := s.log }

/-- The reset input in this step. -/
def State.resetNow (s : State) : Bool := s.resetIn.headD false

/-- The reset input's schedule moves on by one step. -/
def State.tick (s : State) : State := { s with resetIn := s.resetIn.tail }

/-! ### The command port (10_state.md R22, 20_memory.md R68) -/

/-- The host sends the next command word. -/
def State.takeCommand (s : State) : Option (Word × State) :=
  match s.cmds with
  | [] => none
  | w :: rest => some (w, { s with cmds := rest, pc := s.pc + 1 })

end Sys2Proof.Machine
end

