-- ==== Sys2Proof/Machine/Operands.lean ====
section
/-! DEFINITION. The operand forms: the low bits of a general register, unsigned or signed (41_alu.md R110,
44_noise_ops.md R248). -/

namespace Sys2Proof.Machine

/-- An 8-bit unsigned operand, `g[r][7:0]`. -/
def State.u8 (s : State) (r : Reg) : Nat := ((s.reg r).setWidth 8).toNat

/-- An 8-bit signed operand, `sext_8(g[r][7:0])`. -/
def State.s8 (s : State) (r : Reg) : Int := ((s.reg r).setWidth 8).toInt

/-- A 16-bit unsigned operand, `g[r][15:0]`. -/
def State.u16 (s : State) (r : Reg) : Nat := ((s.reg r).setWidth 16).toNat

/-- A 16-bit signed operand, `sext_16(g[r][15:0])`. -/
def State.s16 (s : State) (r : Reg) : Int := ((s.reg r).setWidth 16).toInt

/-- A 32-bit unsigned operand, `g[r]`. -/
def State.u32 (s : State) (r : Reg) : Nat := (s.reg r).toNat

/-- A narrow or high-resolution coordinate, `g[r][15:0]` (R248). -/
def State.coord16 (s : State) (r : Reg) : Half := (s.reg r).setWidth 16

/-- A scale, `g[r][7:0]` (42_sequencer.md R159). -/
def State.scaleOf (s : State) (r : Reg) : Byte := (s.reg r).setWidth 8

/-- A colour, `g[r][23:0]` (42_sequencer.md R161). -/
def State.colorOf (s : State) (r : Reg) : Color := (s.reg r).setWidth 24

/-- An unsigned result as a register value, zero-extended (R110). -/
def unsignedResult (v : Nat) : Word := BitVec.ofNat 32 v

/-- A signed result as a register value, `v mod 2^32` (00_scope.md R8, R110). -/
def signedResult (v : Int) : Word := BitVec.ofInt 32 v

end Sys2Proof.Machine
end

