-- ==== Sys2Proof/Machine/Move.lean ====
section
/-! DEFINITION. The move and CSR commands (40_move_csr.md). -/

namespace Sys2Proof.Machine

/-- What every meaning answers: nothing in FLCORE faults or refuses to run (60_exceptions.md R260, R264). -/
abbrev Result := Host.Outcome State Fault Refusal

/-- `NOP` (R100). -/
def execNop (s : State) : Result := .next (s.respond 0)

/-- `LDI rd, imm16` (R101). -/
def execLdi (rd : Reg) (imm16 : Half) (s : State) : Result := .next (s.writeResult rd (imm16.setWidth 32))

/-- `LDIH rd, imm16`: bits 15:0 of `g[rd]` are kept (R102). -/
def execLdih (rd : Reg) (imm16 : Half) (s : State) : Result :=
  .next (s.writeResult rd (imm16 ++ (s.reg rd).setWidth 16))

/-- `MOV rd, ra` (R103). -/
def execMov (rd ra : Reg) (s : State) : Result := .next (s.writeResult rd (s.reg ra))

/-- `CSRR rd, csr` (R104). -/
def execCsrr (rd : Reg) (csr : Byte) (s : State) : Result :=
  match Csr.ofNumber csr.toNat with
  | none => .next (s.raiseIllegal .csr)
  | some c => .next (s.writeResult rd (s.readCsr c))

/-- `CSRW csr, ra` (R105). -/
def execCsrw (csr : Byte) (ra : Reg) (s : State) : Result :=
  match Csr.ofNumber csr.toNat with
  | none => .next (s.raiseIllegal .csr)
  | some c =>
    match s.writeCsr (s.reg ra) c with
    | none => .next (s.raiseIllegal .csr)
    | some s' => .next (s'.respond 0)

end Sys2Proof.Machine
end

