-- ==== Sys2Proof/Machine/Alu.lean ====
section
/-! DEFINITION. The ALU commands (41_alu.md R110 to R120). -/

namespace Sys2Proof.Machine

/-- `SCALE8` (R111). -/
def execScale8 (rd ra rb : Reg) (s : State) : Result :=
  .next (s.writeResult rd (unsignedResult (scale8 (s.u8 ra) (s.u8 rb))))

/-- `SCALE8V` (R112). -/
def execScale8v (rd ra rb : Reg) (s : State) : Result :=
  .next (s.writeResult rd (unsignedResult (scale8v (s.u8 ra) (s.u8 rb))))

/-- `SCALE16` (R113). -/
def execScale16 (rd ra rb : Reg) (s : State) : Result :=
  .next (s.writeResult rd (unsignedResult (scale16 (s.u16 ra) (s.u16 rb))))

/-- `QADD8` (R114). -/
def execQadd8 (rd ra rb : Reg) (s : State) : Result :=
  .next (s.writeResult rd (unsignedResult (qadd8 (s.u8 ra) (s.u8 rb))))

/-- `AVG7` (R115). -/
def execAvg7 (rd ra rb : Reg) (s : State) : Result :=
  .next (s.writeResult rd (signedResult (avg7 (s.s8 ra) (s.s8 rb))))

/-- `AVG15` (R116). -/
def execAvg15 (rd ra rb : Reg) (s : State) : Result :=
  .next (s.writeResult rd (signedResult (avg15 (s.s16 ra) (s.s16 rb))))

/-- `LERP7` (R117). -/
def execLerp7 (rd ra rb rc : Reg) (s : State) : Result :=
  .next (s.writeResult rd (signedResult (lerp7by8 (s.s8 ra) (s.s8 rb) (s.u8 rc))))

/-- `LERP15` (R118). -/
def execLerp15 (rd ra rb rc : Reg) (s : State) : Result :=
  .next (s.writeResult rd (signedResult (lerp15by16 (s.s16 ra) (s.s16 rb) (s.u16 rc))))

/-- `EASE8` (R119). -/
def execEase8 (rd ra : Reg) (s : State) : Result :=
  .next (s.writeResult rd (unsignedResult (ease8 (s.u8 ra))))

/-- `EASE16` (R120). -/
def execEase16 (rd ra : Reg) (s : State) : Result :=
  .next (s.writeResult rd (unsignedResult (ease16 (s.u16 ra))))

end Sys2Proof.Machine
end

