-- ==== Sys2Proof/Machine/Memory.lean ====
section
/-! DEFINITION. The permutation ROM: its default contents, its read, its canonical form (20_memory.md R60,
R61; 43_noise_kernel.md R191). It is FLCORE's only memory and no command writes it. -/

namespace Sys2Proof

/-- `PERM_CLASSIC`, entries 0..127, sixteen a row (93_implementation_defined.md G1). -/
def permClassicLow : List (List Nat) :=
  [[151, 160, 137, 91, 90, 15, 131, 13, 201, 95, 96, 53, 194, 233, 7, 225],
    [140, 36, 103, 30, 69, 142, 8, 99, 37, 240, 21, 10, 23, 190, 6, 148],
    [247, 120, 234, 75, 0, 26, 197, 62, 94, 252, 219, 203, 117, 35, 11, 32],
    [57, 177, 33, 88, 237, 149, 56, 87, 174, 20, 125, 136, 171, 168, 68, 175],
    [74, 165, 71, 134, 139, 48, 27, 166, 77, 146, 158, 231, 83, 111, 229, 122],
    [60, 211, 133, 230, 220, 105, 92, 41, 55, 46, 245, 40, 244, 102, 143, 54],
    [65, 25, 63, 161, 1, 216, 80, 73, 209, 76, 132, 187, 208, 89, 18, 169],
    [200, 196, 135, 130, 116, 188, 159, 86, 164, 100, 109, 198, 173, 186, 3, 64]]

/-- `PERM_CLASSIC`, entries 128..256 (93_implementation_defined.md G1). -/
def permClassicHigh : List (List Nat) :=
  [[52, 217, 226, 250, 124, 123, 5, 202, 38, 147, 118, 126, 255, 82, 85, 212],
    [207, 206, 59, 227, 47, 16, 58, 17, 182, 189, 28, 42, 223, 183, 170, 213],
    [119, 248, 152, 2, 44, 154, 163, 70, 221, 153, 101, 155, 167, 43, 172, 9],
    [129, 22, 39, 253, 19, 98, 108, 110, 79, 113, 224, 232, 178, 185, 112, 104],
    [218, 246, 97, 228, 251, 34, 242, 193, 238, 210, 144, 12, 191, 179, 162, 241],
    [81, 51, 145, 235, 249, 14, 239, 107, 49, 192, 214, 31, 181, 199, 106, 157],
    [184, 84, 204, 176, 115, 121, 50, 45, 127, 4, 150, 254, 138, 236, 205, 93],
    [222, 114, 67, 29, 24, 72, 243, 141, 128, 195, 78, 66, 215, 61, 156, 180],
    [151]]

/-- `PERM_CLASSIC`: what an address that `Params.perm` does not list reads as (log 2). -/
def Memory.unlisted (a : Nat) : Byte :=
  BitVec.ofNat 8 (((permClassicLow ++ permClassicHigh).getD (a / 16) []).getD (a % 16) 0)

/-- The byte at an address. -/
def Memory.lookup (a : Nat) : Memory → Byte
  | [] => Memory.unlisted a
  | c :: m => if c.1 = a then c.2 else Memory.lookup a m

/-- `PERM[i]`. An index is 0..256 by its type, so no access outside the table can be formed
(20_memory.md R61, 43_noise_kernel.md R195). -/
def Memory.read (m : Memory) (i : Fin 257) : Byte := Memory.lookup i.val m

/-- The canonical form from address `lo` on: addresses strictly rising and at most 256, no cell equal to
what its address reads as when it is not listed. -/
def Memory.wfFrom (lo : Nat) : Memory → Bool
  | [] => true
  | c :: m =>
    decide (lo ≤ c.1) && decide (c.1 ≤ 256) && (c.2 != Memory.unlisted c.1) && Memory.wfFrom (c.1 + 1) m

/-- The canonical form of the permutation ROM. -/
def Memory.wf (m : Memory) : Bool := Memory.wfFrom 0 m

/-- The cells of a table of bytes that starts at address `lo`, in canonical form. -/
def Memory.ofTableFrom (lo : Nat) : List Byte → Memory
  | [] => []
  | b :: t =>
    if b = Memory.unlisted lo then Memory.ofTableFrom (lo + 1) t
    else (lo, b) :: Memory.ofTableFrom (lo + 1) t

/-- The ROM that holds a given table of up to 257 bytes: how a parameter `PERM` other than `PERM_CLASSIC`
is written down (00_scope.md R6). No command does this. -/
def Memory.ofTable (t : List Byte) : Memory := Memory.ofTableFrom 0 t

/-- The constraints on `PERM` (43_noise_kernel.md R191): entries 0..255 hold each byte value exactly once
and entry 256 equals entry 0. -/
def Memory.legal (m : Memory) : Bool :=
  (List.range 256).all (fun v => (List.range 256).any fun i => (Memory.lookup i m).toNat == v)
    && (Memory.lookup 256 m == Memory.lookup 0 m)

end Sys2Proof
end

