-- ==== Sys2Proof/Machine/NoiseKernel.lean ====
section
/-! DEFINITION. The noise kernel (43_noise_kernel.md): coordinates, hash chain, fade, gradients, fold,
rescale. The wide and the narrow kernel are one text over `Width`. -/

namespace Sys2Proof.Machine

/-- The two kernels (R190). -/
inductive Width
  | wide
  | narrow
  deriving DecidableEq, Repr

/-- `N`, the step from a near to a far corner coordinate (R198). -/
def Width.step : Width → Nat
  | .wide => 32768
  | .narrow => 128

/-- `scale16` or `scale8`. -/
def Width.scale : Width → Nat → Nat → Nat
  | .wide => scale16
  | .narrow => scale8

/-- `ease16` or `ease8`. -/
def Width.ease : Width → Nat → Nat
  | .wide => ease16
  | .narrow => ease8

/-- `avg15` or `avg7`. -/
def Width.avg : Width → Int → Int → Int
  | .wide => avg15
  | .narrow => avg7

/-- `lerp15by16` or `lerp7by8`. -/
def Width.lerp : Width → Int → Int → Nat → Int
  | .wide => lerp15by16
  | .narrow => lerp7by8

/-- Two's complement negation at the operand width: the most negative value is its own negation (R199). -/
def Width.neg (w : Width) (v : Int) : Int := if v = -(w.step : Int) then v else -v

/-! ### Coordinates and fade -/

/-- What one axis contributes: the lattice byte (R192), the near-corner coordinate (R198), the fade (R197). -/
structure Axis where
  cell : Byte
  near : Nat
  fade : Nat
  deriving DecidableEq, Repr

/-- The fade of a fraction, by `EASE_SEL` (R197). -/
def fade (p : Params) (w : Width) (f : Nat) : Nat :=
  match p.easeSel with
  | .quad => w.ease f
  | .legacy => w.scale f f

/-- The axis of a lattice byte and a fraction: `(f >> 1) & 0x7FFF` (wide) or `& 0x7F` (narrow) is the near
coordinate (R198). -/
def axisOf (p : Params) (w : Width) (cell : Byte) (f : Nat) : Axis where
  cell := cell
  near := f / 2 % w.step
  fade := fade p w f

/-- A wide coordinate: lattice byte `c[23:16]`, fraction `c[15:0]`, `c[31:24]` ignored (R192). -/
def wideAxis (p : Params) (c : Word) : Axis := axisOf p .wide (c.extractLsb' 16 8) (c.extractLsb' 0 16).toNat

/-- A narrow coordinate: lattice byte `c[15:8]`, fraction `c[7:0]` (R192). -/
def narrowAxis (p : Params) (c : Half) : Axis := axisOf p .narrow (c.extractLsb' 8 8) (c.extractLsb' 0 8).toNat

/-- The coordinate a corner passes to its gradient: near, or near minus `N` (R198). -/
def Axis.at (a : Axis) (w : Width) (corner : Fin 2) : Int := (a.near : Int) - (corner.val : Int) * (w.step : Int)

/-! ### Hash chain -/

/-- A table byte or lattice byte plus a corner offset, not reduced: 0..256 (R193, R195). -/
def cornerIndex (b : Byte) (corner : Fin 2) : Fin 257 := ⟨b.toNat + corner.val, by omega⟩

/-- `P[b + corner]`. -/
def permAt (p : Params) (b : Byte) (corner : Fin 2) : Byte := p.perm.read (cornerIndex b corner)

/-- `h1(i) = P[P[P[X + i]]]` (R194). -/
def hash1 (p : Params) (x : Byte) (i : Fin 2) : Byte := permAt p (permAt p (permAt p x i) 0) 0

/-- `h2(i,j) = P[P[(P[X + i] + Y) mod 256 + j]]` (R194). -/
def hash2 (p : Params) (x y : Byte) (i j : Fin 2) : Byte := permAt p (permAt p (permAt p x i + y) j) 0

/-- `h3(i,j,k)`: the sums are taken modulo 256, the corner offsets are not (R193). -/
def hash3 (p : Params) (x y z : Byte) (i j k : Fin 2) : Byte :=
  permAt p (permAt p (permAt p x i + y) j + z) k

/-- `h4(i,j,k,l) = P[(h3(i,j,k) + T + l) mod 256]` (R194). -/
def hash4 (p : Params) (x y z t : Byte) (i j k l : Fin 2) : Byte :=
  permAt p (hash3 p x y z i j k + t + BitVec.ofNat 8 l.val) 0

/-! ### Gradients -/

/-- The common end of the gradients: negate `u` by bit 0 and `v` by bit 1 of the selector, average (R200). -/
def gradEnd (w : Width) (h : Nat) (u v : Int) : Int :=
  w.avg (if h % 2 = 1 then w.neg u else u) (if h / 2 % 2 = 1 then w.neg v else v)

/-- The 1-D gradient (R203). -/
def grad1 (w : Width) (h : Byte) (x : Int) : Int := gradEnd w (h.toNat % 4) x x

/-- The 2-D gradient (R202). -/
def grad2 (w : Width) (h : Byte) (x y : Int) : Int :=
  let s := h.toNat % 8
  gradEnd w s (if s < 4 then x else y) (if s < 4 then y else x)

/-- The 3-D gradient (R200), on a selector that is already 0..15. -/
def grad3Sel (w : Width) (s : Nat) (x y z : Int) : Int :=
  gradEnd w s (if s < 8 then x else y) (if s < 4 then y else if s = 12 ∨ s = 14 then x else z)

/-- The 3-D gradient (R200). -/
def grad3 (w : Width) (h : Byte) (x y z : Int) : Int := grad3Sel w (h.toNat % 16) x y z

/-- The default 4-D gradient (R205); 4-D noise is wide. -/
def grad4Standard (h : Byte) (x y z t : Int) : Int :=
  let s := h.toNat % 32
  if s < 16 then grad3Sel .wide s x y z else grad3Sel .wide (s - 16) y z t

/-- The parameter `GRAD4` (R204, R205; log 3). -/
def grad4 (p : Params) (h : Byte) (x y z t : Int) : Int :=
  match p.grad4 with
  | .standard => grad4Standard h x y z t
  | .custom k =>
    (Config.customGrad4 k h (BitVec.ofInt 16 x) (BitVec.ofInt 16 y) (BitVec.ofInt 16 z)
      (BitVec.ofInt 16 t)).toInt

/-! ### Fold and raw result (R206, R207) -/

/-- 1-D raw noise. -/
def raw1 (p : Params) (w : Width) (x : Axis) : Int :=
  let g := fun i => grad1 w (hash1 p x.cell i) (x.at w i)
  w.lerp (g 0) (g 1) x.fade

/-- 2-D raw noise. -/
def raw2 (p : Params) (w : Width) (x y : Axis) : Int :=
  let g := fun i j => grad2 w (hash2 p x.cell y.cell i j) (x.at w i) (y.at w j)
  let lx := fun j => w.lerp (g 0 j) (g 1 j) x.fade
  w.lerp (lx 0) (lx 1) y.fade

/-- 3-D raw noise. -/
def raw3 (p : Params) (w : Width) (x y z : Axis) : Int :=
  let g := fun i j k => grad3 w (hash3 p x.cell y.cell z.cell i j k) (x.at w i) (y.at w j) (z.at w k)
  let lx := fun j k => w.lerp (g 0 j k) (g 1 j k) x.fade
  let ly := fun k => w.lerp (lx 0 k) (lx 1 k) y.fade
  w.lerp (ly 0) (ly 1) z.fade

/-- 4-D raw noise; there is only the wide one (R190). -/
def raw4 (p : Params) (x y z t : Axis) : Int :=
  let w := Width.wide
  let g := fun i j k l =>
    grad4 p (hash4 p x.cell y.cell z.cell t.cell i j k l) (x.at w i) (y.at w j) (z.at w k) (t.at w l)
  let lx := fun j k l => w.lerp (g 0 j k l) (g 1 j k l) x.fade
  let ly := fun k l => w.lerp (lx 0 k l) (lx 1 k l) y.fade
  let lz := fun l => w.lerp (ly 0 l) (ly 1 l) z.fade
  w.lerp (lz 0) (lz 1) t.fade

/-- `raw16_1`. -/
def raw16x1 (p : Params) (x : Word) : Int := raw1 p .wide (wideAxis p x)
/-- `raw16_2`. -/
def raw16x2 (p : Params) (x y : Word) : Int := raw2 p .wide (wideAxis p x) (wideAxis p y)
/-- `raw16_3`. -/
def raw16x3 (p : Params) (x y z : Word) : Int := raw3 p .wide (wideAxis p x) (wideAxis p y) (wideAxis p z)
/-- `raw16_4`. -/
def raw16x4 (p : Params) (x y z t : Word) : Int :=
  raw4 p (wideAxis p x) (wideAxis p y) (wideAxis p z) (wideAxis p t)
/-- `raw8_1`. -/
def raw8x1 (p : Params) (x : Half) : Int := raw1 p .narrow (narrowAxis p x)
/-- `raw8_2`. -/
def raw8x2 (p : Params) (x y : Half) : Int := raw2 p .narrow (narrowAxis p x) (narrowAxis p y)
/-- `raw8_3`. -/
def raw8x3 (p : Params) (x y z : Half) : Int :=
  raw3 p .narrow (narrowAxis p x) (narrowAxis p y) (narrowAxis p z)

/-! ### Unsigned outputs -/

/-- `((((raw + bias) mod 2^32) * ratio mod 2^32) >> 8) mod 2^16` (R211). -/
def rescale (bias ratio : Int) (raw : Int) : Nat :=
  (((raw + bias) % 2 ^ 32 * ratio) % 2 ^ 32 / 256 % 2 ^ 16).toNat

/-- `u16_1`: `(2 * (raw + 17308)) mod 2^16` (R211). -/
def unsigned16x1 (p : Params) (x : Word) : Nat := ((2 * (raw16x1 p x + 17308)) % 2 ^ 16).toNat
/-- `u16_2` (R211). -/
def unsigned16x2 (p : Params) (x y : Word) : Nat := rescale 17308 484 (raw16x2 p x y)
/-- `u16_3` (R211). -/
def unsigned16x3 (p : Params) (x y z : Word) : Nat := rescale 19052 440 (raw16x3 p x y z)
/-- `u16_4` (R211). -/
def unsigned16x4 (p : Params) (x y z t : Word) : Nat := rescale 19052 440 (raw16x4 p x y z t)

/-- The 8-bit wrapper: `n = (raw + 64) mod 256`, `qadd8(n, n)` (R212). -/
def wrap8 (raw : Int) : Nat :=
  let n := ((raw + 64) % 256).toNat
  qadd8 n n

/-- `u8_1` (R212). -/
def unsigned8x1 (p : Params) (x : Half) : Nat := wrap8 (raw8x1 p x)
/-- `u8_2` (R212). -/
def unsigned8x2 (p : Params) (x y : Half) : Nat := wrap8 (raw8x2 p x y)
/-- `u8_3` (R212). -/
def unsigned8x3 (p : Params) (x y z : Half) : Nat := wrap8 (raw8x3 p x y z)

/-- A 16-bit coordinate shifted left by 8 into a wide one (R214). -/
def hiresCoord (c : Half) : Word := c.setWidth 32 <<< 8

/-- `h8_1` (R214). -/
def hires8x1 (p : Params) (x : Half) : Nat := unsigned16x1 p (hiresCoord x) / 256
/-- `h8_2` (R214). -/
def hires8x2 (p : Params) (x y : Half) : Nat := unsigned16x2 p (hiresCoord x) (hiresCoord y) / 256
/-- `h8_3` (R214). -/
def hires8x3 (p : Params) (x y z : Half) : Nat :=
  unsigned16x3 p (hiresCoord x) (hiresCoord y) (hiresCoord z) / 256

end Sys2Proof.Machine
end

