-- ==== Sys2Proof/Machine/Noise.lean ====
section
/-! DEFINITION. The noise commands (44_noise_ops.md R230 to R249): the kernel's functions bound to
registers. -/

namespace Sys2Proof.Machine

/-- `PLUT`'s index: `g[ra][8:0]`, folded into 0..256 (R230, 92_eei_decisions.md D46). -/
def plutIndex (idx : BitVec 9) : Fin 257 :=
  if h : idx.toNat ≤ 256 then ⟨idx.toNat, by omega⟩ else ⟨idx.toNat - 256, by omega⟩

/-- `PLUT` (R230). -/
def execPlut (rd ra : Reg) (s : State) : Result :=
  .next (s.writeResult rd ((s.params.perm.read (plutIndex ((s.reg ra).setWidth 9))).setWidth 32))

/-- `NZ16R1` (R231). -/
def execNz16r1 (rd ra : Reg) (s : State) : Result :=
  .next (s.writeResult rd (signedResult (raw16x1 s.params (s.reg ra))))

/-- `NZ16R2` (R232). -/
def execNz16r2 (rd ra rb : Reg) (s : State) : Result :=
  .next (s.writeResult rd (signedResult (raw16x2 s.params (s.reg ra) (s.reg rb))))

/-- `NZ16R3` (R233). -/
def execNz16r3 (rd ra rb rc : Reg) (s : State) : Result :=
  .next (s.writeResult rd (signedResult (raw16x3 s.params (s.reg ra) (s.reg rb) (s.reg rc))))

/-- `NZ16R4` (R234). -/
def execNz16r4 (rd ra rb rc re : Reg) (s : State) : Result :=
  .next (s.writeResult rd (signedResult (raw16x4 s.params (s.reg ra) (s.reg rb) (s.reg rc) (s.reg re))))

/-- `NZ16U1` (R235). -/
def execNz16u1 (rd ra : Reg) (s : State) : Result :=
  .next (s.writeResult rd (unsignedResult (unsigned16x1 s.params (s.reg ra))))

/-- `NZ16U2` (R236). -/
def execNz16u2 (rd ra rb : Reg) (s : State) : Result :=
  .next (s.writeResult rd (unsignedResult (unsigned16x2 s.params (s.reg ra) (s.reg rb))))

/-- `NZ16U3` (R237). -/
def execNz16u3 (rd ra rb rc : Reg) (s : State) : Result :=
  .next (s.writeResult rd (unsignedResult (unsigned16x3 s.params (s.reg ra) (s.reg rb) (s.reg rc))))

/-- `NZ16U4` (R238). -/
def execNz16u4 (rd ra rb rc re : Reg) (s : State) : Result :=
  .next (s.writeResult rd (unsignedResult (unsigned16x4 s.params (s.reg ra) (s.reg rb) (s.reg rc) (s.reg re))))

/-- `NZ8R1` (R239). -/
def execNz8r1 (rd ra : Reg) (s : State) : Result :=
  .next (s.writeResult rd (signedResult (raw8x1 s.params (s.coord16 ra))))

/-- `NZ8R2` (R240). -/
def execNz8r2 (rd ra rb : Reg) (s : State) : Result :=
  .next (s.writeResult rd (signedResult (raw8x2 s.params (s.coord16 ra) (s.coord16 rb))))

/-- `NZ8R3` (R241). -/
def execNz8r3 (rd ra rb rc : Reg) (s : State) : Result :=
  .next (s.writeResult rd (signedResult (raw8x3 s.params (s.coord16 ra) (s.coord16 rb) (s.coord16 rc))))

/-- `NZ8U1` (R242). -/
def execNz8u1 (rd ra : Reg) (s : State) : Result :=
  .next (s.writeResult rd (unsignedResult (unsigned8x1 s.params (s.coord16 ra))))

/-- `NZ8U2` (R243). -/
def execNz8u2 (rd ra rb : Reg) (s : State) : Result :=
  .next (s.writeResult rd (unsignedResult (unsigned8x2 s.params (s.coord16 ra) (s.coord16 rb))))

/-- `NZ8U3` (R244). -/
def execNz8u3 (rd ra rb rc : Reg) (s : State) : Result :=
  .next (s.writeResult rd (unsignedResult (unsigned8x3 s.params (s.coord16 ra) (s.coord16 rb) (s.coord16 rc))))

/-- `NZ8H1` (R245). -/
def execNz8h1 (rd ra : Reg) (s : State) : Result :=
  .next (s.writeResult rd (unsignedResult (hires8x1 s.params (s.coord16 ra))))

/-- `NZ8H2` (R246). -/
def execNz8h2 (rd ra rb : Reg) (s : State) : Result :=
  .next (s.writeResult rd (unsignedResult (hires8x2 s.params (s.coord16 ra) (s.coord16 rb))))

/-- `NZ8H3` (R247). -/
def execNz8h3 (rd ra rb rc : Reg) (s : State) : Result :=
  .next (s.writeResult rd (unsignedResult (hires8x3 s.params (s.coord16 ra) (s.coord16 rb) (s.coord16 rc))))

end Sys2Proof.Machine
end

