-- ==== Sys2Proof/Machine/SeqSteps.lean ====
section
/-! DEFINITION. The steps of the sequencer (42_sequencer.md R145 to R158, R165, R166): one definition for
each state it can leave. -/

namespace Sys2Proof.Machine

/-- The walk bound `n = min(NCTRL, MAX_CONTROLLERS)` (R142). -/
def State.walkBound (s : State) : Nat := min s.nCtrl.toNat s.params.maxControllers

/-! ### The frame method (R146) -/

/-- Step 1: `EVT(1)` unless `MANUAL_EVENTS` (R147). -/
def stepF1 (f : Frame) (s : State) : State :=
  if s.params.manualEvents then s.goto (.f2w f)
  else s.event .beginFrame fun s => s.goto (.f2w f)

/-- Step 2, wait: no sample when `MINMICROS` is 0, else stay while the modular difference is below it (R148). -/
def stepF2w (f : Frame) (s : State) : State :=
  if s.minMicros = 0 then s.goto (.f2s f)
  else s.transact .us fun t1 s =>
    if (t1 - s.lastShow).toNat < s.minMicros.toNat then s.goto (.f2w f) else s.goto (.f2s f)

/-- Step 2, stamp (R149). -/
def stepF2s (f : Frame) (s : State) : State :=
  s.transact .us fun t2 s => { s with lastShow := t2 }.goto (.f3 f)

/-- Step 3, power scaling (R150); then `n` is fixed and pass A begins (R142). -/
def stepF3 (f : Frame) (s : State) : State :=
  if s.pwrEn then
    s.transact (fun r => .pwr f.scale s.pwrData (r.setWidth 8)) fun r s =>
      s.goto (.fa { f with scale := r.setWidth 8 } s.walkBound 0)
  else s.goto (.fa f s.walkBound 0)

/-- Step 4, pass A: `Q_ENABLED`, latched; a disabled controller gets the null token (R151). After the last
controller pass B begins (R153). -/
def stepFa (f : Frame) (n i : Nat) (s : State) : State :=
  if i < n then
    s.ctl .qEnabled i 0 0 fun r s =>
      if r.getLsbD 0 then (s.setEnabled i true).goto (.faSize f n i)
      else ((s.setEnabled i false).setToken i 0).goto (.faDither f n i)
  else s.goto (.fb f n 0)

/-- Step 4, pass A: `Q_SIZE` (R151). -/
def stepFaSize (f : Frame) (n i : Nat) (s : State) : State :=
  s.ctl .qSize i 0 0 fun r s => s.goto (.faBegin f n i (r.setWidth 16))

/-- Step 4, pass A: `BEGIN`, whose answer is the token (R151). -/
def stepFaBegin (f : Frame) (n i : Nat) (size : Half) (s : State) : State :=
  s.ctl .beginShow i (size.setWidth 32) 0 fun r s => (s.setToken i r).goto (.faDither f n i)

/-- Step 4, pass A: the dither gate, for every walked controller (R152). -/
def stepFaDither (f : Frame) (n i : Nat) (s : State) : State :=
  if s.fps.toNat < 100 then s.ctl .setDither i 0 0 fun _ s => s.goto (.fa f n (i + 1))
  else s.goto (.fa f n (i + 1))

/-- Step 5, pass B: `EMIT` or `EMITCOLOR` to an enabled controller (R154). -/
def stepFb (f : Frame) (n i : Nat) (s : State) : State :=
  if i < n then
    if s.enabled i then
      match f.kind with
      | .leds => s.ctl .emit i 0 f.scale fun _ s => s.goto (.fb f n (i + 1))
      | .color => s.ctl .emitColor i (f.color.setWidth 32) f.scale fun _ s => s.goto (.fb f n (i + 1))
    else s.goto (.fb f n (i + 1))
  else s.goto (.fc f n 0)

/-- Step 6, pass C: `END` with the token to an enabled controller (R155). -/
def stepFc (f : Frame) (n i : Nat) (s : State) : State :=
  if i < n then
    if s.enabled i then s.ctl .endShow i (s.token i) 0 fun _ s => s.goto (.fc f n (i + 1))
    else s.goto (.fc f n (i + 1))
  else s.goto (.f7 f)

/-- A new FPS estimate at the sample `now` (R158): a zero denominator is taken as 1. -/
def State.estimate (s : State) (now : Word) : State :=
  let d := (now - s.lastMark).toNat
  { s with
    fps := BitVec.ofNat 32 (s.nFrames.toNat * 1000 / if d = 0 then 1 else d)
    frameCnt := 0
    lastMark := now }

/-- Step 7: the FPS estimator (R158). The counter is compared as a number (log 10). -/
def stepF7 (f : Frame) (s : State) : State :=
  if s.nFrames.toNat ≤ s.frameCnt.toNat + 1 then s.transact .ms fun now s => (s.estimate now).goto (.f8a f)
  else { s with frameCnt := s.frameCnt + 1 }.goto (.f8a f)

/-- Step 8: `EVT(2)` (R157). -/
def stepF8a (f : Frame) (s : State) : State :=
  s.event .endFrame fun s => s.goto (.f8b f)

/-- The end of a frame: the response of a `SHOW` command, or back into the `DELAY` loop (R145). -/
def State.finishFrame (s : State) (f : Frame) : State :=
  match f.delay with
  | none => (s.goto .idle).respond 0
  | some d => s.goto (.delayYield d)

/-- Step 8: `EVT(3)` unless `MANUAL_EVENTS` (R157). -/
def stepF8b (f : Frame) (s : State) : State :=
  if s.params.manualEvents then s.finishFrame f
  else s.event .endShowLeds fun s => s.finishFrame f

/-! ### The `DELAY` loop (R165, R166) -/

/-- The frame of a `DELAY` iteration: kind LEDS at `GSCALE` as it stands (R165). -/
def State.beginDelayFrame (s : State) (d : DelayCtx) : State :=
  s.goto (.f1 { kind := .leds, color := 0, scale := s.gscale, delay := some d })

/-- `start = sample(TIME_MS)` (R165). -/
def stepDelayStart (ms : Word) (s : State) : State :=
  s.transact .ms fun t s => s.goto (.delayTop { start := t, ms := ms })

/-- The head of the loop: `Sleep1ms` takes its first sample unless `ACCURATE_CLOCK` (R165, R166). -/
def stepDelayTop (d : DelayCtx) (s : State) : State :=
  if s.params.accurateClock then s.beginDelayFrame d
  else s.transact .ms fun m0 s => s.goto (.delaySleep d m0)

/-- `Sleep1ms`: sample until the clock has moved (R166). -/
def stepDelaySleep (d : DelayCtx) (m0 : Word) (s : State) : State :=
  s.transact .ms fun m s =>
    if 1 ≤ (m - m0).toNat then s.beginDelayFrame d else s.goto (.delaySleep d m0)

/-- `YLD()` (R165). -/
def stepDelayYield (d : DelayCtx) (s : State) : State :=
  s.transact (fun _ => .yld) fun _ s => s.goto (.delayTest d)

/-- `now = sample(TIME_MS)`; the loop ends when `ms` have elapsed (R165). -/
def stepDelayTest (d : DelayCtx) (s : State) : State :=
  s.transact .ms fun now s =>
    if d.ms.toNat ≤ (now - d.start).toNat then (s.goto .idle).respond 0 else s.goto (.delayTop d)

/-- One step of SEQ (R144, R145); an idle SEQ takes none. -/
def seqStep (s : State) : State :=
  match s.seq with
  | .idle => s
  | .delayStart ms => stepDelayStart ms s
  | .delayTop d => stepDelayTop d s
  | .delaySleep d m0 => stepDelaySleep d m0 s
  | .f1 f => stepF1 f s
  | .f2w f => stepF2w f s
  | .f2s f => stepF2s f s
  | .f3 f => stepF3 f s
  | .fa f n i => stepFa f n i s
  | .faSize f n i => stepFaSize f n i s
  | .faBegin f n i size => stepFaBegin f n i size s
  | .faDither f n i => stepFaDither f n i s
  | .fb f n i => stepFb f n i s
  | .fc f n i => stepFc f n i s
  | .f7 f => stepF7 f s
  | .f8a f => stepF8a f s
  | .f8b f => stepF8b f s
  | .delayYield d => stepDelayYield d s
  | .delayTest d => stepDelayTest d s

end Sys2Proof.Machine
end

