-- ==== Sys2Proof/Machine/Sequencer.lean ====
section
/-! DEFINITION. The sequencer commands (42_sequencer.md R159 to R166). A multi-step command is accepted here,
which fixes the inputs of its frame (R145, state `IDLE`); `seqStep` runs it and sends its response. -/

namespace Sys2Proof.Machine

/-- Accept a frame with the given inputs (R141, R145). -/
def State.startFrame (s : State) (kind : FrameKind) (color : Color) (scale : Byte) : State :=
  s.goto (.f1 { kind := kind, color := color, scale := scale, delay := none })

/-- `SHOW ra` (R159). -/
def execShowS (ra : Reg) (s : State) : Result := .next (s.startFrame .leds 0 (s.scaleOf ra))

/-- `SHOWG` (R160). -/
def execShowG (s : State) : Result := .next (s.startFrame .leds 0 s.gscale)

/-- `SHOWC ra, rb` (R161). -/
def execShowC (ra rb : Reg) (s : State) : Result := .next (s.startFrame .color (s.colorOf ra) (s.scaleOf rb))

/-- `SHOWCG ra` (R164). -/
def execShowCG (ra : Reg) (s : State) : Result := .next (s.startFrame .color (s.colorOf ra) s.gscale)

/-- The period of a rate, microseconds per frame; truncating (R162). -/
def periodOf (r : Nat) : Nat := 1000000 / r

/-- `SETRATE ra` (R162). -/
def execSetrate (ra : Reg) (s : State) : Result :=
  let r := s.u32 ra
  .next ({ s with minMicros := if r = 0 then 0 else BitVec.ofNat 32 (periodOf r) }.respond 0)

/-- `SETRATEC ra`: it can only slow the display (R163, 90_conflicts.md C2). -/
def execSetratec (ra : Reg) (s : State) : Result :=
  let r := s.u32 ra
  .next ({ s with
    minMicros := if r = 0 then s.minMicros else BitVec.ofNat 32 (max s.minMicros.toNat (periodOf r)) }.respond 0)

/-- `DELAY ra` (R165). -/
def execDelay (ra : Reg) (s : State) : Result := .next (s.goto (.delayStart (s.reg ra)))

end Sys2Proof.Machine
end

