-- ==== Sys2Proof/Machine/Dispatch.lean ====
section
/-! DEFINITION. The dispatch: one arm per command. -/

namespace Sys2Proof.Machine

def exec (i : Instr) (s : State) : Host.Outcome State Fault Refusal :=
  match i with
  | .nop => Sys2Proof.Machine.execNop s
  | .ldi rd imm16 => Sys2Proof.Machine.execLdi rd imm16 s
  | .ldih rd imm16 => Sys2Proof.Machine.execLdih rd imm16 s
  | .mov rd ra => Sys2Proof.Machine.execMov rd ra s
  | .csrr rd csr => Sys2Proof.Machine.execCsrr rd csr s
  | .csrw csr ra => Sys2Proof.Machine.execCsrw csr ra s
  | .scale8 rd ra rb => Sys2Proof.Machine.execScale8 rd ra rb s
  | .scale8v rd ra rb => Sys2Proof.Machine.execScale8v rd ra rb s
  | .scale16 rd ra rb => Sys2Proof.Machine.execScale16 rd ra rb s
  | .qadd8 rd ra rb => Sys2Proof.Machine.execQadd8 rd ra rb s
  | .avg7 rd ra rb => Sys2Proof.Machine.execAvg7 rd ra rb s
  | .avg15 rd ra rb => Sys2Proof.Machine.execAvg15 rd ra rb s
  | .lerp7 rd ra rb rc => Sys2Proof.Machine.execLerp7 rd ra rb rc s
  | .lerp15 rd ra rb rc => Sys2Proof.Machine.execLerp15 rd ra rb rc s
  | .ease8 rd ra => Sys2Proof.Machine.execEase8 rd ra s
  | .ease16 rd ra => Sys2Proof.Machine.execEase16 rd ra s
  | .plut rd ra => Sys2Proof.Machine.execPlut rd ra s
  | .nz16r1 rd ra => Sys2Proof.Machine.execNz16r1 rd ra s
  | .nz16r2 rd ra rb => Sys2Proof.Machine.execNz16r2 rd ra rb s
  | .nz16r3 rd ra rb rc => Sys2Proof.Machine.execNz16r3 rd ra rb rc s
  | .nz16r4 rd ra rb rc re => Sys2Proof.Machine.execNz16r4 rd ra rb rc re s
  | .nz16u1 rd ra => Sys2Proof.Machine.execNz16u1 rd ra s
  | .nz16u2 rd ra rb => Sys2Proof.Machine.execNz16u2 rd ra rb s
  | .nz16u3 rd ra rb rc => Sys2Proof.Machine.execNz16u3 rd ra rb rc s
  | .nz16u4 rd ra rb rc re => Sys2Proof.Machine.execNz16u4 rd ra rb rc re s
  | .nz8r1 rd ra => Sys2Proof.Machine.execNz8r1 rd ra s
  | .nz8r2 rd ra rb => Sys2Proof.Machine.execNz8r2 rd ra rb s
  | .nz8r3 rd ra rb rc => Sys2Proof.Machine.execNz8r3 rd ra rb rc s
  | .nz8u1 rd ra => Sys2Proof.Machine.execNz8u1 rd ra s
  | .nz8u2 rd ra rb => Sys2Proof.Machine.execNz8u2 rd ra rb s
  | .nz8u3 rd ra rb rc => Sys2Proof.Machine.execNz8u3 rd ra rb rc s
  | .nz8h1 rd ra => Sys2Proof.Machine.execNz8h1 rd ra s
  | .nz8h2 rd ra rb => Sys2Proof.Machine.execNz8h2 rd ra rb s
  | .nz8h3 rd ra rb rc => Sys2Proof.Machine.execNz8h3 rd ra rb rc s
  | .showS ra => Sys2Proof.Machine.execShowS ra s
  | .showG => Sys2Proof.Machine.execShowG s
  | .showC ra rb => Sys2Proof.Machine.execShowC ra rb s
  | .showCG ra => Sys2Proof.Machine.execShowCG ra s
  | .setrate ra => Sys2Proof.Machine.execSetrate ra s
  | .setratec ra => Sys2Proof.Machine.execSetratec ra s
  | .delay ra => Sys2Proof.Machine.execDelay ra s

end Sys2Proof.Machine
end

