-- ==== Sys2Proof/Machine/Step.lean ====
section
/-! DEFINITION. One step of FLCORE. -/

namespace Sys2Proof.Machine

/-- One step: the reset input (10_state.md R45, 70_reset_and_hazards.md R291), else one step of a running
sequencer command (20_memory.md R68(c)), else the next command word of the host, decoded (30_encoding.md R87)
and executed or refused (60_exceptions.md R262). An idle block with no command word stays as it is (log 6). -/
def step (s : State) : Host.Outcome State Fault Refusal :=
  if s.resetNow then .next s.tick.applyReset
  else if s.seq ≠ .idle then .next (seqStep s.tick)
  else
    match s.tick.takeCommand with
    | none => .next s.tick
    | some (w, s') =>
      match decodeWord w with
      | .ok i => exec i s'
      | .error _ => .next (s'.raiseIllegal .command)

/-- `s` with a command word as the next one the host sends, taken in the very next step: no command is
running and no reset arrives (log 7). -/
def State.withFetchWord (s : State) (nbits w : Nat) : State :=
  { s with
    cmds := BitVec.ofNat 32 (w % 2 ^ nbits) :: s.cmds.tail
    seq := .idle
    resetIn := [] }

end Sys2Proof.Machine
end

