-- ==== Sys2Proof/WellFormed.lean ====
section
/-! DEFINITION. What the spec asks of the parameters a block is built with. A command needs no such check:
every register number, immediate and CSR number is legal (30_encoding.md R84), and `Instr`'s types admit
no other. -/

namespace Sys2Proof

/-- `MAX_CONTROLLERS` is 1..256 (00_scope.md R6). -/
def Params.controllersLegal (p : Params) : Bool :=
  decide (1 ≤ p.maxControllers) && decide (p.maxControllers ≤ 256)

/-- The parameters 00_scope.md R6 and 43_noise_kernel.md R191 allow: `MAX_CONTROLLERS` in its range,
`PERM` in canonical form and within its two constraints. -/
def Params.wellFormed (p : Params) : Bool :=
  p.controllersLegal && p.perm.wf && p.perm.legal

end Sys2Proof
end

