-- ==== Sys2Proof/Safety.lean ====
section
/-! DEFINITION. What claims speak of: the invariant of FLCORE's states, what may be observed at its ports, and
the observations and the end state of a whole frame. -/

namespace Sys2Proof.Machine

/-! ### Results of single-step commands -/

/-- `zext_n(v)` (00_scope.md R8). -/
def zextOf (n : Nat) (v : Word) : Nat := v.toNat % 2 ^ n

/-- `sext_n(v[n-1:0])` (00_scope.md R8). -/
def sextOf (n : Nat) (v : Word) : Int :=
  if zextOf n v < 2 ^ (n - 1) then (zextOf n v : Int) else (zextOf n v : Int) - 2 ^ n

/-- The command is executed at once: it writes `v` to `rd`, answers `(0, v)`, and changes nothing else, no other
register, no control register, no parameter, no part of the sequencer, nothing of the environment. -/
def Completes (i : Instr) (s : State) (rd : Reg) (v : Word) : Prop :=
  ∃ t, exec i s = .next t ∧ (∀ r, t.reg r = if r = rd then v else s.reg r) ∧
    t = { s with g := t.g, log := s.log ++ [.respond 0 v] }

/-! ### The invariant (10_state.md R30, R42, R47) -/

/-- A frame inside `DELAY` has kind LEDS and colour 0 (42_sequencer.md R141, R165). -/
def Frame.legal (f : Frame) : Prop := f.delay ≠ none → f.kind = .leds ∧ f.color = 0

/-- Every controller below `k` that is not enabled has the null token (42_sequencer.md R151). -/
def State.nullBelow (s : State) (k : Nat) : Prop := ∀ j, j < k → s.enabled j = false → s.token j = 0

/-- The frame-local variables of a running sequencer command (10_state.md R42, 42_sequencer.md R142). -/
def State.seqLegal (s : State) : Prop :=
  match s.seq with
  | .idle => True
  | .delayStart _ => True
  | .delayTop _ => True
  | .delaySleep _ _ => True
  | .f1 f => f.legal
  | .f2w f => f.legal
  | .f2s f => f.legal
  | .f3 f => f.legal
  | .fa f n i => f.legal ∧ n = s.walkBound ∧ i ≤ n ∧ s.nullBelow i
  | .faSize f n i => f.legal ∧ n = s.walkBound ∧ i < n ∧ s.nullBelow i ∧ s.enabled i = true
  | .faBegin f n i _ => f.legal ∧ n = s.walkBound ∧ i < n ∧ s.nullBelow i ∧ s.enabled i = true
  | .faDither f n i => f.legal ∧ n = s.walkBound ∧ i < n ∧ s.nullBelow (i + 1)
  | .fb f n i => f.legal ∧ n = s.walkBound ∧ i ≤ n ∧ s.nullBelow n
  | .fc f n i => f.legal ∧ n = s.walkBound ∧ i ≤ n ∧ s.nullBelow n
  | .f7 f => f.legal
  | .f8a f => f.legal
  | .f8b f => f.legal
  | .delayYield _ => True
  | .delayTest _ => True

/-- The invariant: the parameters are legal and `PERM` is in canonical form; `TOK[]` and `ENL[]` have
`MAX_CONTROLLERS` entries (R42); the bounds of R47; the sequencer's variables are legal. -/
structure State.Inv (s : State) : Prop where
  params : s.params.wellFormed = true
  tokSize : s.tok.length = s.params.maxControllers
  enlSize : s.enl.length = s.params.maxControllers
  frameCnt : s.frameCnt.toNat ≤ 65534
  fps : s.fps.toNat ≤ 65535000
  seq : s.seqLegal

/-! ### What may be observed (20_memory.md R71, R72; 60_exceptions.md R260) -/

/-- An observation of a step from `s` is one the port rules allow. Kinds and event codes are the numbers of R71
and R72; kind 7 and code 0 are never sent. -/
def IoEvent.allowedFrom (s : State) : IoEvent → Prop
  | .ctl kind i a b _ =>
    i.toNat < s.walkBound ∧
      match kind.toNat with
      | 0 => a = 0 ∧ b = 0
      | 1 => a = 0 ∧ b = 0
      | 2 => a.toNat < 65536 ∧ b = 0
      | 3 => a = 0 ∧ b = 0 ∧ s.fps.toNat < 100
      | 4 => a = 0 ∧ s.enabled i.toNat = true
      | 5 => a.toNat < 2 ^ 24 ∧ s.enabled i.toNat = true
      | 6 => a = s.token i.toNat ∧ b = 0 ∧ s.enabled i.toNat = true
      | _ => False
  | .pwr _ data _ => s.pwrEn = true ∧ data = s.pwrData
  | .evt code =>
    match code.toNat with
    | 1 => s.params.manualEvents = false
    | 2 => True
    | 3 => s.params.manualEvents = false
    | _ => False
  | .yld => True
  | .us _ => True
  | .ms _ => True
  | .respond status data => status.toNat ≤ 2 ∧ (status ≠ 0 → data = 0)

/-! ### A whole frame (42_sequencer.md R146, R156) -/

/-- Answers of the environment, each with what is then observed. -/
abbrev Io := List (Word × IoEvent)

/-- What one controller answers in a frame: to `Q_ENABLED`, `Q_SIZE`, `BEGIN`, and, ignored, to `SETDITHER`,
`EMIT` or `EMITCOLOR`, `END`. -/
structure CtlAnswers where
  enabledR : Word
  sizeR : Word
  tokenR : Word
  ditherR : Word
  emitR : Word
  endR : Word

/-- The enabled answer, `r[0]`. -/
def CtlAnswers.on (c : CtlAnswers) : Bool := c.enabledR.getLsbD 0

/-- What the environment answers in a frame: to `EVT(1)`; the samples that fall short of the floor, and the one
that reaches it; the stamp; the power governor; the controllers; the FPS estimator's sample; `EVT(2)`, `EVT(3)`. -/
structure FrameAnswers where
  beginAck : Word
  waits : List Word
  reached : Word
  stamp : Word
  power : Word
  ctls : List CtlAnswers
  now : Word
  endAck : Word
  showAck : Word

/-- A controller transaction, its kind by the number of R71: 0 `Q_ENABLED`, 1 `Q_SIZE`, 2 `BEGIN`, 3 `SETDITHER`,
4 `EMIT`, 5 `EMITCOLOR`, 6 `END`. -/
def ctlIo (kind : BitVec 3) (i : Nat) (a : Word) (b : Byte) (r : Word) : Word × IoEvent :=
  (r, .ctl kind (BitVec.ofNat 8 i) a b r)

/-- Pass A of controller `i` (R151, R152). -/
def passAIo (dither : Bool) (i : Nat) (c : CtlAnswers) : Io :=
  ctlIo 0 i 0 0 c.enabledR ::
    ((if c.on then
        [ctlIo 1 i 0 0 c.sizeR,
          ctlIo 2 i ((c.sizeR.setWidth 16).setWidth 32) 0 c.tokenR]
      else []) ++
      if dither then [ctlIo 3 i 0 0 c.ditherR] else [])

/-- Pass B of controller `i` (R154). -/
def passBIo (f : Frame) (scale : Byte) (i : Nat) (c : CtlAnswers) : Io :=
  if c.on then
    match f.kind with
    | .leds => [ctlIo 4 i 0 scale c.emitR]
    | .color => [ctlIo 5 i (f.color.setWidth 32) scale c.emitR]
  else []

/-- Pass C of controller `i` (R155). -/
def passCIo (i : Nat) (c : CtlAnswers) : Io :=
  if c.on then [ctlIo 6 i c.tokenR 0 c.endR] else []

/-- A pass over the controllers from index `i` on. -/
def walkIo (pass : Nat → CtlAnswers → Io) (i : Nat) : List CtlAnswers → Io
  | [] => []
  | c :: cs => pass i c ++ walkIo pass (i + 1) cs

/-- The scale after step 3 (R150). -/
def scaleAfter (s : State) (f : Frame) (a : FrameAnswers) : Byte :=
  if s.pwrEn then a.power.setWidth 8 else f.scale

/-- Step 7 computes a new estimate (R158). -/
def estimateDue (s : State) : Bool := decide (s.nFrames.toNat ≤ s.frameCnt.toNat + 1)

/-- Everything a frame that begins in `s` exchanges with the environment, in order (R146). -/
def frameIo (s : State) (f : Frame) (a : FrameAnswers) : Io :=
  (if s.params.manualEvents then [] else [(a.beginAck, .evt 1)])
    ++ (if s.minMicros = 0 then [] else (a.waits ++ [a.reached]).map fun t => (t, .us t))
    ++ [(a.stamp, .us a.stamp)]
    ++ (if s.pwrEn then [(a.power, .pwr f.scale s.pwrData (a.power.setWidth 8))] else [])
    ++ walkIo (passAIo (decide (s.fps.toNat < 100))) 0 a.ctls
    ++ walkIo (passBIo f (scaleAfter s f a)) 0 a.ctls
    ++ walkIo passCIo 0 a.ctls
    ++ (if estimateDue s then [(a.now, .ms a.now)] else [])
    ++ [(a.endAck, .evt 2)]
    ++ (if s.params.manualEvents then [] else [(a.showAck, .evt 3)])

/-- The answers fit the frame: one set for each walked controller (R142), the floor samples as R148 reads them. -/
def FrameAnswers.fit (s : State) (a : FrameAnswers) : Prop :=
  a.ctls.length = s.walkBound ∧
    (s.minMicros ≠ 0 →
      (∀ t, t ∈ a.waits → (t - s.lastShow).toNat < s.minMicros.toNat) ∧
        s.minMicros.toNat ≤ (a.reached - s.lastShow).toNat)

/-- The milliseconds since the last estimate, a zero taken as 1 (R158). -/
def elapsedMs (s : State) (now : Word) : Nat := max 1 ((now.toNat + 2 ^ 32 - s.lastMark.toNat) % 2 ^ 32)

/-- The state a frame that begins in `s` ends in, `rest` being the answers it does not use (R146 to R158). -/
def frameEnd (s : State) (f : Frame) (a : FrameAnswers) (rest : List (Option Word)) : State :=
  { s with
    lastShow := a.stamp
    tok := (a.ctls.map fun c => if c.on then c.tokenR else 0) ++ s.tok.drop a.ctls.length
    enl := (a.ctls.map fun c => c.on) ++ s.enl.drop a.ctls.length
    fps := if estimateDue s then BitVec.ofNat 32 (s.nFrames.toNat * 1000 / elapsedMs s a.now) else s.fps
    frameCnt := if estimateDue s then 0 else BitVec.ofNat 16 (s.frameCnt.toNat + 1)
    lastMark := if estimateDue s then a.now else s.lastMark
    seq := match f.delay with
      | none => .idle
      | some d => .delayYield d
    answers := rest
    log := s.log ++ (frameIo s f a).map Prod.snd ++
      match f.delay with
      | none => [.respond 0 0]
      | some _ => [] }

end Sys2Proof.Machine
end

