-- ==== Sys2Proof/Certificates/Slice0/Obligations.lean ====
section
/-! DEFINITION. The statements for the provers, in the order of OBLIGATIONS.json. -/

open Sys2Proof Sys2Proof.Machine

/-! ### Encoding and the command port -/

/-- Words written out in the spec, and the commands they stand for (30_encoding.md R91; 95_test_vectors.md). -/
def Obligations.SpecWordsDecode : Prop :=
  decodeWord 0x00000000 = .ok .nop ∧
  decodeWord 0x01234101 = .ok (.ldi 1 0x1234) ∧
  decodeWord 0x00140508 = .ok (.csrr 5 0x14) ∧
  decodeWord 0x00103009 = .ok (.csrw 0x10 3) ∧
  decodeWord 0x00987A16 = .ok (.lerp7 10 7 8 9) ∧
  decodeWord 0x00321427 = .ok (.nz16u3 4 1 2 3) ∧
  decodeWord 0x04321524 = .ok (.nz16r4 5 1 2 3 4) ∧
  decodeWord 0x00021042 = .ok (.showC 1 2) ∧
  decodeWord 0x00001046 = .ok (.delay 1)

/-- Decoding the word of a command gives the command back, whatever its operands (R87, R91). -/
def Obligations.DecodeOfEncode : Prop := ∀ i : Instr, decodeWord (encode i) = .ok i

/-- A word that decodes to a command is that command's word: no bit of a legal word is ignored (R80, R88). -/
def Obligations.EncodeOfDecode : Prop := ∀ (w : Word) (i : Instr), decodeWord w = .ok i → encode i = w

/-- A word matches at most one row (R86), decodes to a command of the row it matches, and is no command when it
matches none (R87). -/
def Obligations.RowsDecideDecoding : Prop :=
  ∀ w : Word,
    (∀ o o' : Op, w &&& o.mask = o.pattern → w &&& o'.mask = o'.pattern → o = o') ∧
    (∀ o : Op, w &&& o.mask = o.pattern → ∃ i, decodeWord w = .ok i ∧ i.op = o) ∧
    ((∀ o : Op, w &&& o.mask ≠ o.pattern) → ∃ e, decodeWord w = .error e)

/-- A word that matches no row is answered `(1, 0)` and sets `ERR.ILL`; nothing else of the block changes, and
the host's index advances (30_encoding.md R88; 60_exceptions.md R261, R262; 10_state.md R22). -/
def Obligations.IllegalWordIsAnswered : Prop :=
  ∀ (s : State) (w : Word) (rest : List Word), s.seq = .idle → s.resetIn = [] → s.cmds = w :: rest →
    (∀ o : Op, w &&& o.mask ≠ o.pattern) →
    step s = .next { s with errIll := true, cmds := rest, pc := s.pc + 1, log := s.log ++ [.respond 1 0] }

/-- An idle block, no reset arriving, runs the command the next word decodes to (10_state.md R22). What `step`
adds around `exec`: the word is taken, the index advances, the reset schedule moves on (log 6, log 8). -/
def Obligations.StepRunsDecodedCommand : Prop :=
  ∀ (s : State) (w : Word) (rest : List Word) (i : Instr), s.seq = .idle → s.resetNow = false →
    s.cmds = w :: rest → decodeWord w = .ok i →
    step s = exec i { s with cmds := rest, pc := s.pc + 1, resetIn := s.resetIn.tail }

/-- While a sequencer command runs no command word is taken, no general register and no control register but
`LASTSHOW`, `FPS`, `FRAMECNT`, `LASTMARK` changes, and a step observes at most one transaction and the response
(20_memory.md R68, 10_state.md R46, 42_sequencer.md R144). -/
def Obligations.SequencerStepFrame : Prop :=
  ∀ s t : State, s.seq ≠ .idle → s.resetNow = false → step s = .next t →
    t = { s with
      lastShow := t.lastShow
      fps := t.fps
      frameCnt := t.frameCnt
      lastMark := t.lastMark
      tok := t.tok
      enl := t.enl
      seq := t.seq
      answers := t.answers
      drawIx := t.drawIx
      resetIn := s.resetIn.tail
      log := t.log } ∧
    ∃ l, t.log = s.log ++ l ∧ l.length ≤ 2

/-- Nothing stops FLCORE: every step of every state answers a next state (60_exceptions.md R260, R264). -/
def Obligations.EveryStepAnswersNext : Prop := ∀ s : State, ∃ t, step s = .next t

/-- The reset input restores the reset values, whatever was running, without a response or a transaction
(70_reset_and_hazards.md R290, R291; 10_state.md R45). -/
def Obligations.ResetStepRestoresResetValues : Prop :=
  ∀ s : State, s.resetNow = true → ∃ t, step s = .next t ∧
    (∀ r, t.reg r = 0) ∧
    t.readCsr .id = 0x464C0700 ∧ t.readCsr .cfg = s.readCsr .cfg ∧ t.readCsr .maxctrl = s.readCsr .maxctrl ∧
    t.readCsr .err = 0 ∧ t.readCsr .gscale = 255 ∧ t.readCsr .minmicros = 0 ∧ t.readCsr .lastshow = 0 ∧
    t.readCsr .nframes = 25 ∧ t.readCsr .fps = 0 ∧ t.readCsr .framecnt = 0 ∧ t.readCsr .lastmark = 0 ∧
    t.readCsr .nctrl = 0 ∧ t.readCsr .pwrctl = 0 ∧ t.readCsr .pwrdata = 0 ∧
    (∀ i, t.token i = 0 ∧ t.enabled i = false) ∧ t.seq = .idle ∧ t.params.perm = s.params.perm ∧ t.log = s.log

/-- What belongs to the host and the environment is not reset: the model's choice (log 8), and so are all the
parameters (log 1). -/
def Obligations.ResetLeavesHostAndEnvironment : Prop :=
  ∀ s t : State, s.resetNow = true → step s = .next t →
    t.params = s.params ∧ t.cmds = s.cmds ∧ t.pc = s.pc ∧ t.answers = s.answers ∧ t.drawIx = s.drawIx ∧
    t.resetIn = s.resetIn.tail

/-- Every command but the five multi-step ones sends exactly one response at once and leaves SEQ as it is; a
multi-step command is accepted, with its response still to come (92_eei_decisions.md D2, D45). -/
def Obligations.OneResponsePerCommand : Prop :=
  ∀ (i : Instr) (s t : State), exec i s = .next t →
    if i.op = .showS ∨ i.op = .showG ∨ i.op = .showC ∨ i.op = .showCG ∨ i.op = .delay then
      t.log = s.log ∧ t.seq ≠ .idle
    else t.seq = s.seq ∧ ∃ st d, t.log = s.log ++ [.respond st d]

/-- The `ERR` bits are sticky: a step clears one only when reset arrives (10_state.md R30). -/
def Obligations.ErrBitsAreSticky : Prop :=
  ∀ s t : State, s.resetNow = false → step s = .next t →
    (s.errIll = true → t.errIll = true) ∧ (s.errCsre = true → t.errCsre = true)

/-- Who writes what (10_state.md R21, R27 column "SEQ writes"; 60_exceptions.md R271), reset apart. No step changes a
parameter (that they are held in the state is log 1); no step of a running sequencer command writes a register or a
host-written CSR; the sequencer-owned CSRs change only in the steps that own them. -/
def Obligations.WritersOfEachRegister : Prop :=
  ∀ s t : State, step s = .next t →
    t.params = s.params ∧
    (s.resetNow = false →
      (s.seq ≠ .idle → t.g = s.g ∧ t.gscale = s.gscale ∧ t.minMicros = s.minMicros ∧ t.nFrames = s.nFrames ∧
        t.nCtrl = s.nCtrl ∧ t.pwrEn = s.pwrEn ∧ t.pwrData = s.pwrData ∧ t.errIll = s.errIll ∧
        t.errCsre = s.errCsre) ∧
      (t.lastShow ≠ s.lastShow → ∃ f, s.seq = .f2s f) ∧
      (t.fps ≠ s.fps ∨ t.frameCnt ≠ s.frameCnt ∨ t.lastMark ≠ s.lastMark → ∃ f, s.seq = .f7 f))

/-! ### The words of commands (30_encoding.md R81 to R83, R91) -/

/-- The word of a format R command. -/
def wordR (op : Nat) (rd ra rb rc re : Reg) : Word :=
  BitVec.ofNat 32 (op + rd * 2 ^ 8 + ra * 2 ^ 12 + rb * 2 ^ 16 + rc * 2 ^ 20 + re * 2 ^ 24)

/-- The word of a format I command. -/
def wordI (op : Nat) (rd : Reg) (imm16 : Half) : Word := BitVec.ofNat 32 (op + rd * 2 ^ 8 + imm16.toNat * 2 ^ 12)

/-- The word of a format C command. -/
def wordC (op : Nat) (rd ra : Reg) (csr : Byte) : Word :=
  BitVec.ofNat 32 (op + rd * 2 ^ 8 + ra * 2 ^ 12 + csr.toNat * 2 ^ 16)

/-- The word `w` is the command `i`, and `i` is executed at once: it writes `v` to `rd` and answers `(0, v)`. -/
def RunsAs (w : Word) (i : Instr) (s : State) (rd : Reg) (v : Word) : Prop :=
  decodeWord w = .ok i ∧ Completes i s rd v

/-! ### Move and CSR commands -/

/-- `NOP`, `LDI`, `LDIH`, `MOV` (40_move_csr.md R100 to R103). -/
def Obligations.MoveCommands : Prop :=
  (∀ s : State, decodeWord 0 = .ok .nop ∧ exec .nop s = .next { s with log := s.log ++ [.respond 0 0] }) ∧
  (∀ (s : State) (rd : Reg) (imm16 : Half),
    RunsAs (wordI 0x01 rd imm16) (.ldi rd imm16) s rd (BitVec.ofNat 32 imm16.toNat)) ∧
  (∀ (s : State) (rd : Reg) (imm16 : Half),
    RunsAs (wordI 0x02 rd imm16) (.ldih rd imm16) s rd
      (BitVec.ofNat 32 (imm16.toNat * 65536 + zextOf 16 (s.reg rd)))) ∧
  (∀ (s : State) (rd ra : Reg), RunsAs (wordR 0x03 rd ra 0 0 0) (.mov rd ra) s rd (s.reg ra))

/-- The numbers of the control registers (10_state.md R27). -/
def csrNumbers : List (Nat × Csr) :=
  [(0x00, .id), (0x01, .cfg), (0x02, .err), (0x03, .maxctrl), (0x10, .gscale), (0x11, .minmicros),
    (0x12, .lastshow), (0x13, .nframes), (0x14, .fps), (0x15, .framecnt), (0x16, .lastmark), (0x17, .nctrl),
    (0x18, .pwrctl), (0x19, .pwrdata)]

/-- The word `w` is the CSR command `i`, and `i` is refused (60_exceptions.md R261, R263). -/
def RefusedCsr (w : Word) (i : Instr) (s : State) : Prop :=
  decodeWord w = .ok i ∧ exec i s = .next { s with errCsre := true, log := s.log ++ [.respond 2 0] }

/-- `CSRR` (40_move_csr.md R104): the value of an existing register goes to `rd`; any other number is refused. -/
def Obligations.CsrReadCommand : Prop :=
  ∀ (s : State) (rd : Reg) (csr : Byte),
    (∀ c, (csr.toNat, c) ∈ csrNumbers → RunsAs (wordC 0x08 rd 0 csr) (.csrr rd csr) s rd (s.readCsr c)) ∧
    ((∀ c, (csr.toNat, c) ∉ csrNumbers) → RefusedCsr (wordC 0x08 rd 0 csr) (.csrr rd csr) s)

/-- What each control register reads as, as a number: zero-extended, reserved bits 0 (10_state.md R26 to R41). -/
def Obligations.CsrReadValues : Prop :=
  ∀ s : State,
    (s.readCsr .id).toNat = 0x464C0700 ∧
    (s.readCsr .cfg).toNat = (if s.params.easeSel = .legacy then 1 else 0) +
      (if s.params.manualEvents = true then 2 else 0) + (if s.params.accurateClock = true then 4 else 0) ∧
    (s.readCsr .err).toNat = (if s.errIll = true then 1 else 0) + (if s.errCsre = true then 2 else 0) ∧
    (s.readCsr .maxctrl).toNat = s.params.maxControllers % 2 ^ 32 ∧
    (s.readCsr .gscale).toNat = s.gscale.toNat ∧ (s.readCsr .minmicros) = s.minMicros ∧
    (s.readCsr .lastshow) = s.lastShow ∧ (s.readCsr .nframes).toNat = s.nFrames.toNat ∧
    (s.readCsr .fps) = s.fps ∧ (s.readCsr .framecnt).toNat = s.frameCnt.toNat ∧
    (s.readCsr .lastmark) = s.lastMark ∧ (s.readCsr .nctrl).toNat = s.nCtrl.toNat ∧
    (s.readCsr .pwrctl).toNat = (if s.pwrEn = true then 1 else 0) ∧ (s.readCsr .pwrdata) = s.pwrData

/-- `CSRW` (40_move_csr.md R105): the low bits go to a writable register and `(0, 0)` is answered; a read-only
register and a number that does not exist are refused. -/
def Obligations.CsrWriteCommand : Prop :=
  ∀ (s : State) (ra : Reg),
    (∀ csr : Byte, decodeWord (wordC 0x09 0 ra csr) = .ok (.csrw csr ra)) ∧
    exec (.csrw 0x10 ra) s = .next { s with
      gscale := BitVec.ofNat 8 (zextOf 8 (s.reg ra)), log := s.log ++ [.respond 0 0] } ∧
    exec (.csrw 0x11 ra) s = .next { s with minMicros := s.reg ra, log := s.log ++ [.respond 0 0] } ∧
    exec (.csrw 0x13 ra) s = .next { s with
      nFrames := BitVec.ofNat 16 (zextOf 16 (s.reg ra)), log := s.log ++ [.respond 0 0] } ∧
    exec (.csrw 0x17 ra) s = .next { s with
      nCtrl := BitVec.ofNat 16 (zextOf 16 (s.reg ra)), log := s.log ++ [.respond 0 0] } ∧
    exec (.csrw 0x18 ra) s = .next { s with
      pwrEn := decide (zextOf 1 (s.reg ra) = 1), log := s.log ++ [.respond 0 0] } ∧
    exec (.csrw 0x19 ra) s = .next { s with pwrData := s.reg ra, log := s.log ++ [.respond 0 0] } ∧
    ∀ csr : Byte, csr.toNat ∉ [0x10, 0x11, 0x13, 0x17, 0x18, 0x19] →
      RefusedCsr (wordC 0x09 0 ra csr) (.csrw csr ra) s

/-- What is written to a control register is what the next read gives, cut to the register's width; the widths
are those of R27 (10_state.md R26). -/
def Obligations.CsrWriteThenRead : Prop :=
  ∀ (s t : State) (csr : Byte) (w : Nat) (ra rd : Reg),
    (csr.toNat, w) ∈ [(0x10, 8), (0x11, 32), (0x13, 16), (0x17, 16), (0x18, 1), (0x19, 32)] →
    exec (.csrw csr ra) s = .next t →
    Completes (.csrr rd csr) t rd (BitVec.ofNat 32 (zextOf w (s.reg ra)))

/-! ### ALU commands -/

/-- `SCALE8`, `SCALE8V`, `SCALE16` (41_alu.md R111, R112, R113). -/
def Obligations.ScaleCommands : Prop :=
  ∀ (s : State) (rd ra rb : Reg),
    RunsAs (wordR 0x10 rd ra rb 0 0) (.scale8 rd ra rb) s rd
      (BitVec.ofNat 32 (zextOf 8 (s.reg ra) * zextOf 8 (s.reg rb) / 2 ^ 8)) ∧
    RunsAs (wordR 0x11 rd ra rb 0 0) (.scale8v rd ra rb) s rd
      (BitVec.ofNat 32 (if zextOf 8 (s.reg ra) = 0 ∨ zextOf 8 (s.reg rb) = 0 then 0
        else zextOf 8 (s.reg ra) * zextOf 8 (s.reg rb) / 2 ^ 8 + 1)) ∧
    RunsAs (wordR 0x12 rd ra rb 0 0) (.scale16 rd ra rb) s rd
      (BitVec.ofNat 32 (zextOf 16 (s.reg ra) * zextOf 16 (s.reg rb) / 2 ^ 16))

/-- `QADD8` (41_alu.md R114): the sum where it fits a byte, else 255. -/
def Obligations.SaturatingAddCommand : Prop :=
  ∀ (s : State) (rd ra rb : Reg),
    RunsAs (wordR 0x13 rd ra rb 0 0) (.qadd8 rd ra rb) s rd
      (BitVec.ofNat 32 (if zextOf 8 (s.reg ra) + zextOf 8 (s.reg rb) ≤ 255
        then zextOf 8 (s.reg ra) + zextOf 8 (s.reg rb) else 255))

/-- `v` is half of `x`, rounded toward minus infinity. -/
def IsFloorHalf (x v : Int) : Prop := 2 * v ≤ x ∧ x < 2 * v + 2

/-- `AVG7`, `AVG15` (41_alu.md R115, R116): the floor of half the exact sum, sign-extended; it fits the width. -/
def Obligations.AverageCommands : Prop :=
  ∀ (s : State) (rd ra rb : Reg),
    (∃ v : Int, IsFloorHalf (sextOf 8 (s.reg ra) + sextOf 8 (s.reg rb)) v ∧ -128 ≤ v ∧ v ≤ 127 ∧
      RunsAs (wordR 0x14 rd ra rb 0 0) (.avg7 rd ra rb) s rd (BitVec.ofInt 32 v)) ∧
    (∃ v : Int, IsFloorHalf (sextOf 16 (s.reg ra) + sextOf 16 (s.reg rb)) v ∧ -32768 ≤ v ∧ v ≤ 32767 ∧
      RunsAs (wordR 0x15 rd ra rb 0 0) (.avg15 rd ra rb) s rd (BitVec.ofInt 32 v))

/-- The sign-magnitude lerp (41_alu.md R121; 92_eei_decisions.md D12) with `f` a fraction of `2^n`. -/
def lerpSpec (n : Nat) (a b : Int) (f : Nat) : Int :=
  if b ≥ a then a + (b - a) * f / 2 ^ n else a - (a - b) * f / 2 ^ n

/-- `LERP7`, `LERP15` (41_alu.md R117, R118). -/
def Obligations.LerpCommands : Prop :=
  ∀ (s : State) (rd ra rb rc : Reg),
    RunsAs (wordR 0x16 rd ra rb rc 0) (.lerp7 rd ra rb rc) s rd
      (BitVec.ofInt 32 (lerpSpec 8 (sextOf 8 (s.reg ra)) (sextOf 8 (s.reg rb)) (zextOf 8 (s.reg rc)))) ∧
    RunsAs (wordR 0x17 rd ra rb rc 0) (.lerp15 rd ra rb rc) s rd
      (BitVec.ofInt 32 (lerpSpec 16 (sextOf 16 (s.reg ra)) (sextOf 16 (s.reg rb)) (zextOf 16 (s.reg rc))))

/-- A lerp lies between its ends, and is its first end at fraction 0 (41_alu.md R122 (e), R117, R118). -/
def Obligations.LerpLiesBetweenItsEnds : Prop :=
  ∀ (s t : State) (rd ra rb rc : Reg),
    (exec (.lerp7 rd ra rb rc) s = .next t →
      min (sextOf 8 (s.reg ra)) (sextOf 8 (s.reg rb)) ≤ (t.reg rd).toInt ∧
      (t.reg rd).toInt ≤ max (sextOf 8 (s.reg ra)) (sextOf 8 (s.reg rb)) ∧
      (zextOf 8 (s.reg rc) = 0 → (t.reg rd).toInt = sextOf 8 (s.reg ra))) ∧
    (exec (.lerp15 rd ra rb rc) s = .next t →
      min (sextOf 16 (s.reg ra)) (sextOf 16 (s.reg rb)) ≤ (t.reg rd).toInt ∧
      (t.reg rd).toInt ≤ max (sextOf 16 (s.reg ra)) (sextOf 16 (s.reg rb)) ∧
      (zextOf 16 (s.reg rc) = 0 → (t.reg rd).toInt = sextOf 16 (s.reg ra)))

/-- The ease over `0 .. 2^(n)-1` (41_alu.md R121): fold at the middle, square, double. -/
def easeSpec (n i : Nat) : Nat :=
  if i < 2 ^ (n - 1) then i * i / 2 ^ n * 2
  else 2 ^ n - 1 - (2 ^ n - 1 - i) * (2 ^ n - 1 - i) / 2 ^ n * 2

/-- `EASE8`, `EASE16` (41_alu.md R119, R120): the doubling never reaches the width (R122 (f)). -/
def Obligations.EaseCommands : Prop :=
  ∀ (s : State) (rd ra : Reg),
    RunsAs (wordR 0x18 rd ra 0 0 0) (.ease8 rd ra) s rd (BitVec.ofNat 32 (easeSpec 8 (zextOf 8 (s.reg ra)))) ∧
    RunsAs (wordR 0x19 rd ra 0 0 0) (.ease16 rd ra) s rd (BitVec.ofNat 32 (easeSpec 16 (zextOf 16 (s.reg ra))))

/-- The eases are non-decreasing, symmetric, fixed at both ends, even below the middle and odd from it on
(41_alu.md R119, R120). -/
def Obligations.EaseShape : Prop :=
  (∀ i j : Nat, i ≤ j → j ≤ 255 → ease8 i ≤ ease8 j) ∧
  (∀ i : Nat, i ≤ 255 → ease8 (255 - i) = 255 - ease8 i ∧ ease8 i % 2 = if i < 128 then 0 else 1) ∧
  ease8 0 = 0 ∧ ease8 255 = 255 ∧
  (∀ i j : Nat, i ≤ j → j ≤ 65535 → ease16 i ≤ ease16 j) ∧
  (∀ i : Nat, i ≤ 65535 → ease16 (65535 - i) = 65535 - ease16 i ∧ ease16 i % 2 = if i < 32768 then 0 else 1) ∧
  ease16 0 = 0 ∧ ease16 65535 = 65535

/-- The ranges of the unsigned ALU results (41_alu.md R121, R112): the video scale is 0 only for a zero operand. -/
def Obligations.UnsignedAluRanges : Prop :=
  ∀ (s t : State) (rd ra rb : Reg),
    (exec (.scale8 rd ra rb) s = .next t → (t.reg rd).toNat ≤ 254) ∧
    (exec (.scale8v rd ra rb) s = .next t →
      (t.reg rd).toNat ≤ 255 ∧
      ((t.reg rd).toNat = 0 ↔ zextOf 8 (s.reg ra) = 0 ∨ zextOf 8 (s.reg rb) = 0)) ∧
    (exec (.scale16 rd ra rb) s = .next t → (t.reg rd).toNat ≤ 65534) ∧
    (exec (.qadd8 rd ra rb) s = .next t → (t.reg rd).toNat ≤ 255) ∧
    (exec (.ease8 rd ra) s = .next t → (t.reg rd).toNat ≤ 255) ∧
    (exec (.ease16 rd ra) s = .next t → (t.reg rd).toNat ≤ 65535)

/-! ### Noise commands and kernel -/

/-- `PLUT` (44_noise_ops.md R230): the 9-bit index folded into 0..256. -/
def Obligations.TableLookupCommand : Prop :=
  ∀ (s : State) (rd ra : Reg),
    RunsAs (wordR 0x20 rd ra 0 0 0) (.plut rd ra) s rd
      (BitVec.ofNat 32 (Memory.lookup (if zextOf 9 (s.reg ra) ≤ 256 then zextOf 9 (s.reg ra)
        else zextOf 9 (s.reg ra) - 256) s.params.perm).toNat)

/-- With a legal `PERM`, `PLUT` of two indices 0..255 gives the same value only for the same index, every value
0..255 is given for some index 0..255, and index 256 gives what index 0 gives (43_noise_kernel.md R191;
95_test_vectors.md V-PLUT). -/
def Obligations.TableIsAPermutation : Prop :=
  (∀ (s t t' : State) (rd ra ra' : Reg), s.params.wellFormed = true →
    exec (.plut rd ra) s = .next t → exec (.plut rd ra') s = .next t' →
    (zextOf 9 (s.reg ra) < 256 → zextOf 9 (s.reg ra') < 256 → t.reg rd = t'.reg rd →
      zextOf 9 (s.reg ra) = zextOf 9 (s.reg ra')) ∧
    (zextOf 9 (s.reg ra) = 256 → zextOf 9 (s.reg ra') = 0 → t.reg rd = t'.reg rd)) ∧
  (∀ (s : State) (rd ra : Reg) (v : Nat), s.params.wellFormed = true → v < 256 →
    ∃ i, i < 256 ∧ ∃ t, exec (.plut rd ra) (s.setReg ra (BitVec.ofNat 32 i)) = .next t ∧ (t.reg rd).toNat = v)

/-- The raw noise commands write the kernel's raw value, sign-extended (44_noise_ops.md R231 to R234, R239 to
R241, R248). -/
def Obligations.RawNoiseCommands : Prop :=
  ∀ (s : State) (rd ra rb rc re : Reg),
    RunsAs (wordR 0x21 rd ra 0 0 0) (.nz16r1 rd ra) s rd (BitVec.ofInt 32 (raw16x1 s.params (s.reg ra))) ∧
    RunsAs (wordR 0x22 rd ra rb 0 0) (.nz16r2 rd ra rb) s rd
      (BitVec.ofInt 32 (raw16x2 s.params (s.reg ra) (s.reg rb))) ∧
    RunsAs (wordR 0x23 rd ra rb rc 0) (.nz16r3 rd ra rb rc) s rd
      (BitVec.ofInt 32 (raw16x3 s.params (s.reg ra) (s.reg rb) (s.reg rc))) ∧
    RunsAs (wordR 0x24 rd ra rb rc re) (.nz16r4 rd ra rb rc re) s rd
      (BitVec.ofInt 32 (raw16x4 s.params (s.reg ra) (s.reg rb) (s.reg rc) (s.reg re))) ∧
    RunsAs (wordR 0x31 rd ra 0 0 0) (.nz8r1 rd ra) s rd
      (BitVec.ofInt 32 (raw8x1 s.params (BitVec.ofNat 16 (zextOf 16 (s.reg ra))))) ∧
    RunsAs (wordR 0x32 rd ra rb 0 0) (.nz8r2 rd ra rb) s rd
      (BitVec.ofInt 32 (raw8x2 s.params (BitVec.ofNat 16 (zextOf 16 (s.reg ra)))
        (BitVec.ofNat 16 (zextOf 16 (s.reg rb))))) ∧
    RunsAs (wordR 0x33 rd ra rb rc 0) (.nz8r3 rd ra rb rc) s rd
      (BitVec.ofInt 32 (raw8x3 s.params (BitVec.ofNat 16 (zextOf 16 (s.reg ra)))
        (BitVec.ofNat 16 (zextOf 16 (s.reg rb))) (BitVec.ofNat 16 (zextOf 16 (s.reg rc)))))

/-- The rescale as R211 writes it, over the integers. -/
def rescaleSpec (bias ratio raw : Int) : Int := (raw + bias) % 2 ^ 32 * ratio % 2 ^ 32 / 2 ^ 8 % 2 ^ 16

/-- The 8-bit wrapper as R212 writes it: `n = (raw + 64) mod 256`, doubled and saturated. -/
def wrapSpec (raw : Int) : Int := min 255 ((raw + 64) % 256 + (raw + 64) % 256)

/-- The unsigned noise commands rescale the raw value as 43_noise_kernel.md R211 and R212 say (44_noise_ops.md
R235 to R238, R242 to R244). -/
def Obligations.UnsignedNoiseCommands : Prop :=
  ∀ (s : State) (rd ra rb rc re : Reg),
    let x := BitVec.ofNat 16 (zextOf 16 (s.reg ra))
    let y := BitVec.ofNat 16 (zextOf 16 (s.reg rb))
    let z := BitVec.ofNat 16 (zextOf 16 (s.reg rc))
    RunsAs (wordR 0x25 rd ra 0 0 0) (.nz16u1 rd ra) s rd
      (BitVec.ofInt 32 (2 * (raw16x1 s.params (s.reg ra) + 17308) % 2 ^ 16)) ∧
    RunsAs (wordR 0x26 rd ra rb 0 0) (.nz16u2 rd ra rb) s rd
      (BitVec.ofInt 32 (rescaleSpec 17308 484 (raw16x2 s.params (s.reg ra) (s.reg rb)))) ∧
    RunsAs (wordR 0x27 rd ra rb rc 0) (.nz16u3 rd ra rb rc) s rd
      (BitVec.ofInt 32 (rescaleSpec 19052 440 (raw16x3 s.params (s.reg ra) (s.reg rb) (s.reg rc)))) ∧
    RunsAs (wordR 0x28 rd ra rb rc re) (.nz16u4 rd ra rb rc re) s rd
      (BitVec.ofInt 32 (rescaleSpec 19052 440 (raw16x4 s.params (s.reg ra) (s.reg rb) (s.reg rc) (s.reg re)))) ∧
    RunsAs (wordR 0x35 rd ra 0 0 0) (.nz8u1 rd ra) s rd (BitVec.ofInt 32 (wrapSpec (raw8x1 s.params x))) ∧
    RunsAs (wordR 0x36 rd ra rb 0 0) (.nz8u2 rd ra rb) s rd (BitVec.ofInt 32 (wrapSpec (raw8x2 s.params x y))) ∧
    RunsAs (wordR 0x37 rd ra rb rc 0) (.nz8u3 rd ra rb rc) s rd (BitVec.ofInt 32 (wrapSpec (raw8x3 s.params x y z)))

/-- The high-resolution commands: the 16-bit unsigned noise of the same dimension at the coordinates shifted left
by 8, its high byte (44_noise_ops.md R245 to R247, 43_noise_kernel.md R214). -/
def Obligations.HiresNoiseCommands : Prop :=
  ∀ (s : State) (rd ra rb rc : Reg),
    let x := BitVec.ofNat 32 (zextOf 16 (s.reg ra) * 2 ^ 8)
    let y := BitVec.ofNat 32 (zextOf 16 (s.reg rb) * 2 ^ 8)
    let z := BitVec.ofNat 32 (zextOf 16 (s.reg rc) * 2 ^ 8)
    RunsAs (wordR 0x39 rd ra 0 0 0) (.nz8h1 rd ra) s rd
      (BitVec.ofInt 32 (2 * (raw16x1 s.params x + 17308) % 2 ^ 16 / 2 ^ 8)) ∧
    RunsAs (wordR 0x3A rd ra rb 0 0) (.nz8h2 rd ra rb) s rd
      (BitVec.ofInt 32 (rescaleSpec 17308 484 (raw16x2 s.params x y) / 2 ^ 8)) ∧
    RunsAs (wordR 0x3B rd ra rb rc 0) (.nz8h3 rd ra rb rc) s rd
      (BitVec.ofInt 32 (rescaleSpec 19052 440 (raw16x3 s.params x y z) / 2 ^ 8))

/-- The hash chains, over the numbers (43_noise_kernel.md R193, R194): sums of a table byte and a lattice byte
modulo 256, corner offsets not reduced. -/
def Obligations.HashChains : Prop :=
  ∀ (p : Params) (x y z t : Byte) (i j k l : Fin 2),
    let P := fun n => (Memory.lookup n p.perm).toNat
    let h3 := P ((P ((P (x.toNat + i) + y.toNat) % 256 + j) + z.toNat) % 256 + k)
    (hash1 p x i).toNat = P (P (P (x.toNat + i))) ∧
    (hash2 p x y i j).toNat = P (P ((P (x.toNat + i) + y.toNat) % 256 + j)) ∧
    (hash3 p x y z i j k).toNat = h3 ∧
    (hash4 p x y z t i j k l).toNat = P ((h3 + t.toNat + l) % 256)

/-- The cases of the gradients, written out (43_noise_kernel.md R201 to R203, R205), at either width, and what their
negation and average are (R199, 41_alu.md R121). -/
def Obligations.GradientCases : Prop :=
  (∀ v : Int, Width.neg .wide v = (if v = -32768 then -32768 else -v) ∧
    Width.neg .narrow v = if v = -128 then -128 else -v) ∧
  (∀ (w : Width) (a b : Int), IsFloorHalf (a + b) (w.avg a b)) ∧
  (∀ (w : Width) (h : Byte) (x y z : Int),
    let n := w.neg
    some (grad3 w h x y z) =
      ([w.avg x y, w.avg (n x) y, w.avg x (n y), w.avg (n x) (n y),
        w.avg x z, w.avg (n x) z, w.avg x (n z), w.avg (n x) (n z),
        w.avg y z, w.avg (n y) z, w.avg y (n z), w.avg (n y) (n z),
        w.avg y x, w.avg (n y) z, w.avg y (n x), w.avg (n y) (n z)] : List Int)[h.toNat % 16]? ∧
    some (grad2 w h x y) =
      ([w.avg x y, w.avg (n x) y, w.avg x (n y), w.avg (n x) (n y),
        w.avg y x, w.avg (n y) x, w.avg y (n x), w.avg (n y) (n x)] : List Int)[h.toNat % 8]? ∧
    some (grad1 w h x) = ([w.avg x x, w.avg (n x) x, w.avg x (n x), w.avg (n x) (n x)] : List Int)[h.toNat % 4]?) ∧
  (∀ (p : Params) (h : Byte) (x y z t : Int), p.grad4 = .standard →
    grad4 p h x y z t =
      if h.toNat % 32 < 16 then grad3 .wide (BitVec.ofNat 8 (h.toNat % 32)) x y z
      else grad3 .wide (BitVec.ofNat 8 (h.toNat % 32 - 16)) y z t)

/-- Lattice byte, near and far coordinate and fade of a coordinate, over the numbers (43_noise_kernel.md R192, R197,
R198). -/
def Obligations.AxisOfACoordinate : Prop :=
  (∀ (p : Params) (c : Word),
    let f := c.toNat % 2 ^ 16
    (wideAxis p c).cell.toNat = c.toNat / 2 ^ 16 % 2 ^ 8 ∧
    (wideAxis p c).at .wide 0 = (f / 2 : Nat) ∧ (wideAxis p c).at .wide 1 = (f / 2 : Nat) - 32768 ∧
    (wideAxis p c).fade = if p.easeSel = .quad then easeSpec 16 f else f * f / 2 ^ 16) ∧
  (∀ (p : Params) (c : Half),
    let f := c.toNat % 2 ^ 8
    (narrowAxis p c).cell.toNat = c.toNat / 2 ^ 8 ∧
    (narrowAxis p c).at .narrow 0 = (f / 2 : Nat) ∧ (narrowAxis p c).at .narrow 1 = (f / 2 : Nat) - 128 ∧
    (narrowAxis p c).fade = if p.easeSel = .quad then easeSpec 8 f else f * f / 2 ^ 8)

/-- The fold of the corner gradients along the axes (43_noise_kernel.md R206): the fades last axis first, so the x axis
is lerped first; a corner is the list of its offsets along x, y, z, t. -/
def foldSpec (n : Nat) : List Nat → (List (Fin 2) → Int) → Int
  | [], g => g []
  | e :: es, g => lerpSpec n (foldSpec n es fun c => g (c ++ [0])) (foldSpec n es fun c => g (c ++ [1])) e

/-- Raw noise is the fold, x first, then y, z, t, of the gradients at the corners, each with the corner's hash and
coordinates (43_noise_kernel.md R206, R207). -/
def Obligations.RawNoiseFoldsTheGradients : Prop :=
  (∀ (p : Params) (x y z t : Word),
    let a := wideAxis p
    let at' := fun (c : Word) (i : Fin 2) => (a c).at .wide i
    raw16x1 p x = foldSpec 16 [(a x).fade] (fun
      | [i] => grad1 .wide (hash1 p (a x).cell i) (at' x i)
      | _ => 0) ∧
    raw16x2 p x y = foldSpec 16 [(a y).fade, (a x).fade] (fun
      | [i, j] => grad2 .wide (hash2 p (a x).cell (a y).cell i j) (at' x i) (at' y j)
      | _ => 0) ∧
    raw16x3 p x y z = foldSpec 16 [(a z).fade, (a y).fade, (a x).fade] (fun
      | [i, j, k] =>
        grad3 .wide (hash3 p (a x).cell (a y).cell (a z).cell i j k) (at' x i) (at' y j) (at' z k)
      | _ => 0) ∧
    raw16x4 p x y z t = foldSpec 16 [(a t).fade, (a z).fade, (a y).fade, (a x).fade] (fun
      | [i, j, k, l] =>
        grad4 p (hash4 p (a x).cell (a y).cell (a z).cell (a t).cell i j k l) (at' x i) (at' y j) (at' z k) (at' t l)
      | _ => 0)) ∧
  (∀ (p : Params) (x y z : Half),
    let a := narrowAxis p
    let at' := fun (c : Half) (i : Fin 2) => (a c).at .narrow i
    raw8x1 p x = foldSpec 8 [(a x).fade] (fun
      | [i] => grad1 .narrow (hash1 p (a x).cell i) (at' x i)
      | _ => 0) ∧
    raw8x2 p x y = foldSpec 8 [(a y).fade, (a x).fade] (fun
      | [i, j] => grad2 .narrow (hash2 p (a x).cell (a y).cell i j) (at' x i) (at' y j)
      | _ => 0) ∧
    raw8x3 p x y z = foldSpec 8 [(a z).fade, (a y).fade, (a x).fade] (fun
      | [i, j, k] =>
        grad3 .narrow (hash3 p (a x).cell (a y).cell (a z).cell i j k) (at' x i) (at' y j) (at' z k)
      | _ => 0))

/-- Raw noise fits its signed width in every dimension, for every `PERM`, fade and `GRAD4`: nothing wraps
(43_noise_kernel.md R207). -/
def Obligations.RawNoiseFitsItsWidth : Prop :=
  (∀ (p : Params) (x y z t : Word) (v : Int),
    v ∈ [raw16x1 p x, raw16x2 p x y, raw16x3 p x y z, raw16x4 p x y z t] → -32768 ≤ v ∧ v ≤ 32767) ∧
  (∀ (p : Params) (x y z : Half) (v : Int),
    v ∈ [raw8x1 p x, raw8x2 p x y, raw8x3 p x y z] → -128 ≤ v ∧ v ≤ 127)

/-- At a lattice point the noise commands give the constants of 43_noise_kernel.md R210 and R211 to R214 for every
`PERM` and either fade; the 4-D lines under the default `GRAD4` (95_test_vectors.md V-LATTICE). -/
def Obligations.LatticeValues : Prop :=
  ∀ (s : State) (rd ra rb rc re : Reg),
    ((∀ r, r ∈ [ra, rb, rc, re] → zextOf 16 (s.reg r) = 0) →
      Completes (.nz16r1 rd ra) s rd 0 ∧ Completes (.nz16r2 rd ra rb) s rd 0 ∧
      Completes (.nz16r3 rd ra rb rc) s rd 0 ∧
      Completes (.nz16u1 rd ra) s rd 34616 ∧ Completes (.nz16u2 rd ra rb) s rd 32722 ∧
      Completes (.nz16u3 rd ra rb rc) s rd 32745 ∧
      (s.params.grad4 = .standard →
        Completes (.nz16r4 rd ra rb rc re) s rd 0 ∧ Completes (.nz16u4 rd ra rb rc re) s rd 32745)) ∧
    ((∀ r, r ∈ [ra, rb, rc] → zextOf 8 (s.reg r) = 0) →
      Completes (.nz8r1 rd ra) s rd 0 ∧ Completes (.nz8r2 rd ra rb) s rd 0 ∧
      Completes (.nz8r3 rd ra rb rc) s rd 0 ∧
      Completes (.nz8u1 rd ra) s rd 128 ∧ Completes (.nz8u2 rd ra rb) s rd 128 ∧
      Completes (.nz8u3 rd ra rb rc) s rd 128 ∧
      Completes (.nz8h1 rd ra) s rd 135 ∧ Completes (.nz8h2 rd ra rb) s rd 127 ∧
      Completes (.nz8h3 rd ra rb rc) s rd 127)

/-- The high byte of a wide coordinate does not matter: wide noise has period `2^24` (43_noise_kernel.md R192,
R215 (b)). -/
def Obligations.WideNoisePeriod : Prop :=
  ∀ (p : Params) (x y z t x' y' z' t' : Word),
    x.toNat % 2 ^ 24 = x'.toNat % 2 ^ 24 → y.toNat % 2 ^ 24 = y'.toNat % 2 ^ 24 →
    z.toNat % 2 ^ 24 = z'.toNat % 2 ^ 24 → t.toNat % 2 ^ 24 = t'.toNat % 2 ^ 24 →
    raw16x1 p x = raw16x1 p x' ∧ raw16x2 p x y = raw16x2 p x' y' ∧ raw16x3 p x y z = raw16x3 p x' y' z' ∧
      raw16x4 p x y z t = raw16x4 p x' y' z' t'

/-- With every fraction below 256 (wide) or 16 (narrow) only the near corner contributes, under either fade
(43_noise_kernel.md R209, R215 (c)). -/
def Obligations.OnlyTheNearCornerContributes : Prop :=
  (∀ (p : Params) (x y z t : Word),
    (∀ c, c ∈ [x, y, z, t] → zextOf 16 c < 256) →
    let a := wideAxis p
    raw16x1 p x = grad1 .wide (hash1 p (a x).cell 0) (a x).near ∧
    raw16x2 p x y = grad2 .wide (hash2 p (a x).cell (a y).cell 0 0) (a x).near (a y).near ∧
    raw16x3 p x y z =
      grad3 .wide (hash3 p (a x).cell (a y).cell (a z).cell 0 0 0) (a x).near (a y).near (a z).near ∧
    raw16x4 p x y z t =
      grad4 p (hash4 p (a x).cell (a y).cell (a z).cell (a t).cell 0 0 0 0) (a x).near (a y).near (a z).near
        (a t).near) ∧
  (∀ (p : Params) (x y z : Half),
    (∀ c, c ∈ [x, y, z] → c.toNat % 256 < 16) →
    let a := narrowAxis p
    raw8x1 p x = grad1 .narrow (hash1 p (a x).cell 0) (a x).near ∧
    raw8x2 p x y = grad2 .narrow (hash2 p (a x).cell (a y).cell 0 0) (a x).near (a y).near ∧
    raw8x3 p x y z =
      grad3 .narrow (hash3 p (a x).cell (a y).cell (a z).cell 0 0 0) (a x).near (a y).near (a z).near)

/-- The narrow 1-D raw noise is in -64..64 under `QUAD` and in -68..68 under `LEGACY`, for every `PERM`
(43_noise_kernel.md R213; 44_noise_ops.md R239). -/
def Obligations.NarrowOneDimensionalRange : Prop :=
  ∀ (s t : State) (rd ra : Reg), exec (.nz8r1 rd ra) s = .next t →
    (s.params.easeSel = .quad → -64 ≤ (t.reg rd).toInt ∧ (t.reg rd).toInt ≤ 64) ∧
    (s.params.easeSel = .legacy → -68 ≤ (t.reg rd).toInt ∧ (t.reg rd).toInt ≤ 68)

/-- `NZ16U1` is always even; the 8-bit unsigned noise is even or 255 (44_noise_ops.md R235, R242;
43_noise_kernel.md R212). -/
def Obligations.UnsignedNoiseParity : Prop :=
  ∀ (s t : State) (rd ra rb rc : Reg),
    (exec (.nz16u1 rd ra) s = .next t → (t.reg rd).toNat % 2 = 0 ∧ (t.reg rd).toNat ≤ 65534) ∧
    (exec (.nz8u1 rd ra) s = .next t ∨ exec (.nz8u2 rd ra rb) s = .next t ∨
      exec (.nz8u3 rd ra rb rc) s = .next t →
      ((t.reg rd).toNat % 2 = 0 ∧ (t.reg rd).toNat ≤ 254) ∨ (t.reg rd).toNat = 255)

/-- Where the rescale does not wrap, and that it wraps elsewhere (43_noise_kernel.md R213). -/
def Obligations.RescaleWindows : Prop :=
  ∀ raw : Int, -32768 ≤ raw → raw ≤ 32767 →
    ((-17308 ≤ raw ∧ raw ≤ 17355) ↔ ((rescale 17308 484 raw : Int) = (raw + 17308) * 484 / 256)) ∧
    ((-19052 ≤ raw ∧ raw ≤ 19078) ↔ ((rescale 19052 440 raw : Int) = (raw + 19052) * 440 / 256))

/-- What an ALU or noise command writes depends on the registers and the parameters alone (41_alu.md R110, R122 (h);
44_noise_ops.md R249). -/
def Obligations.ComputationsArePure : Prop :=
  ∀ (i : Instr) (s s' t t' : State),
    i.op ∉ [Op.csrr, .csrw, .showS, .showG, .showC, .showCG, .setrate, .setratec, .delay] →
    s.g = s'.g → s.params = s'.params → exec i s = .next t → exec i s' = .next t' →
    t.g = t'.g ∧ ∃ d, t.log = s.log ++ [.respond 0 d] ∧ t'.log = s'.log ++ [.respond 0 d]

/-! ### Sequencer commands -/

/-- `SETRATE`, `SETRATEC` (42_sequencer.md R162, R163): single step; only `MINMICROS` changes. -/
def Obligations.RateCommands : Prop :=
  ∀ (s : State) (ra : Reg),
    decodeWord (wordR 0x44 0 ra 0 0 0) = .ok (.setrate ra) ∧
    decodeWord (wordR 0x45 0 ra 0 0 0) = .ok (.setratec ra) ∧
    (∃ t, exec (.setrate ra) s = .next t ∧
      t.minMicros.toNat = (if (s.reg ra).toNat ≠ 0 then 1000000 / (s.reg ra).toNat else 0) ∧
      t = { s with minMicros := t.minMicros, log := s.log ++ [.respond 0 0] }) ∧
    (∃ t, exec (.setratec ra) s = .next t ∧
      t.minMicros.toNat =
        (if (s.reg ra).toNat ≠ 0 then max s.minMicros.toNat (1000000 / (s.reg ra).toNat) else s.minMicros.toNat) ∧
      t = { s with minMicros := t.minMicros, log := s.log ++ [.respond 0 0] })

/-- A multi-step command is accepted: SEQ leaves `IDLE` with the inputs of the frame fixed, or with `DELAY`'s `ms`,
and nothing else changes (42_sequencer.md R141, R145, R159 to R161, R164, R165). -/
def Obligations.MultiStepCommandsAreAccepted : Prop :=
  ∀ (s : State) (ra rb : Reg),
    decodeWord (wordR 0x46 0 ra 0 0 0) = .ok (.delay ra) ∧
    exec (.showS ra) s = .next { s with
      seq := .f1 { kind := .leds, color := 0, scale := BitVec.ofNat 8 (zextOf 8 (s.reg ra)), delay := none } } ∧
    exec .showG s = .next { s with
      seq := .f1 { kind := .leds, color := 0, scale := s.gscale, delay := none } } ∧
    exec (.showC ra rb) s = .next { s with
      seq := .f1 { kind := .color, color := BitVec.ofNat 24 (zextOf 24 (s.reg ra)),
                   scale := BitVec.ofNat 8 (zextOf 8 (s.reg rb)), delay := none } } ∧
    exec (.showCG ra) s = .next { s with
      seq := .f1 { kind := .color, color := BitVec.ofNat 24 (zextOf 24 (s.reg ra)), scale := s.gscale,
                   delay := none } } ∧
    exec (.delay ra) s = .next { s with seq := .delayStart (s.reg ra) }

/-- The environment is about to answer `r`, then `rest`, and no reset arrives. -/
def Answering (s : State) (r : Word) (rest : List (Option Word)) : Prop :=
  s.answers = some r :: rest ∧ s.resetIn = []

/-- The events around a frame (42_sequencer.md R147, R157): `EVT(1)` first, `EVT(2)` after the FPS update, then
`EVT(3)`, then the response or back into `DELAY`; `MANUAL_EVENTS` suppresses codes 1 and 3 only. -/
def Obligations.FrameEvents : Prop :=
  ∀ (s : State) (f : Frame) (r : Word) (rest : List (Option Word)), Answering s r rest →
    (s.seq = .f1 f → s.params.manualEvents = false →
      step s = .next { s with seq := .f2w f, answers := rest, log := s.log ++ [.evt 1] }) ∧
    (s.seq = .f1 f → s.params.manualEvents = true → step s = .next { s with seq := .f2w f }) ∧
    (s.seq = .f8a f →
      step s = .next { s with seq := .f8b f, answers := rest, log := s.log ++ [.evt 2] }) ∧
    (s.seq = .f8b f → f.delay = none → s.params.manualEvents = false →
      step s = .next { s with
        seq := .idle, answers := rest, log := s.log ++ [.evt 3, .respond 0 0] }) ∧
    (s.seq = .f8b f → f.delay = none → s.params.manualEvents = true →
      step s = .next { s with seq := .idle, log := s.log ++ [.respond 0 0] }) ∧
    (∀ d, s.seq = .f8b f → f.delay = some d → s.params.manualEvents = false →
      step s = .next { s with seq := .delayYield d, answers := rest, log := s.log ++ [.evt 3] }) ∧
    (∀ d, s.seq = .f8b f → f.delay = some d → s.params.manualEvents = true →
      step s = .next { s with seq := .delayYield d })

/-- The refresh-rate floor and the stamp (42_sequencer.md R148, R149). -/
def Obligations.FloorAndStamp : Prop :=
  ∀ (s : State) (f : Frame) (r : Word) (rest : List (Option Word)), Answering s r rest →
    (s.seq = .f2w f → s.minMicros = 0 → step s = .next { s with seq := .f2s f }) ∧
    (s.seq = .f2w f → s.minMicros ≠ 0 →
      step s = .next { s with
        seq := if (r.toNat + 2 ^ 32 - s.lastShow.toNat) % 2 ^ 32 < s.minMicros.toNat then .f2w f else .f2s f
        answers := rest
        log := s.log ++ [.us r] }) ∧
    (s.seq = .f2s f →
      step s = .next { s with seq := .f3 f, lastShow := r, answers := rest, log := s.log ++ [.us r] })

/-- The inequality between successive stamps (42_sequencer.md R149, 70_reset_and_hazards.md R304): when SEQ leaves the
floor wait on a sample and the clock does not run backwards before the stamp, the new stamp is at least `MINMICROS`
after the old one. -/
def Obligations.StampsKeepTheFloor : Prop :=
  ∀ (s u : State) (f : Frame) (t1 t2 : Word) (rest : List (Option Word)), s.seq = .f2w f → s.minMicros ≠ 0 →
    s.resetIn = [] → s.answers = some t1 :: some t2 :: rest → Host.Core.run core 2 s = .next u → u.seq = .f3 f →
    (t1 - s.lastShow).toNat ≤ (t2 - s.lastShow).toNat →
    u.lastShow = t2 ∧ s.minMicros.toNat ≤ (u.lastShow - s.lastShow).toNat

/-- Power scaling, and the walk bound fixed as pass A begins (42_sequencer.md R150, R142). -/
def Obligations.PowerScalingStep : Prop :=
  ∀ (s : State) (f : Frame) (r : Word) (rest : List (Option Word)), Answering s r rest → s.seq = .f3 f →
    let n := min s.nCtrl.toNat s.params.maxControllers
    (s.pwrEn = true →
      step s = .next { s with
        seq := .fa { f with scale := BitVec.ofNat 8 (zextOf 8 r) } n 0
        answers := rest
        log := s.log ++ [.pwr f.scale s.pwrData (BitVec.ofNat 8 (zextOf 8 r))] }) ∧
    (s.pwrEn = false → step s = .next { s with seq := .fa f n 0 })

/-- Pass A of one controller (42_sequencer.md R151, R152): an enabled one is asked its size and begun, and its token
kept; a disabled one gets the null token; either gets `SETDITHER` when `FPS < 100`. -/
def Obligations.PassAOfOneController : Prop :=
  ∀ (s : State) (f : Frame) (n i : Nat) (c : CtlAnswers) (rest : List (Option Word)),
    s.seq = .fa f n i → i < n → s.resetIn = [] →
    s.answers = (passAIo (decide (s.fps.toNat < 100)) i c).map (fun x => some x.1) ++ rest →
    ∃ k, Host.Core.run core k s = .next { s with
      enl := s.enl.set i c.on
      tok := s.tok.set i (if c.on then c.tokenR else 0)
      seq := .fa f n (i + 1)
      answers := rest
      log := s.log ++ (passAIo (decide (s.fps.toNat < 100)) i c).map Prod.snd }

/-- Pass B and pass C of one controller (42_sequencer.md R154, R155): only an enabled one gets `EMIT` or `EMITCOLOR`,
and `END` with its token. -/
def Obligations.PassBAndCOfOneController : Prop :=
  ∀ (s : State) (f : Frame) (n i : Nat) (r : Word) (rest : List (Option Word)), Answering s r rest → i < n →
    (s.seq = .fb f n i → s.enabled i = true →
      step s = .next { s with
        seq := .fb f n (i + 1)
        answers := rest
        log := s.log ++ [match f.kind with
          | .leds => .ctl 4 (BitVec.ofNat 8 i) 0 f.scale r
          | .color => .ctl 5 (BitVec.ofNat 8 i) (BitVec.ofNat 32 f.color.toNat) f.scale r] }) ∧
    (s.seq = .fb f n i → s.enabled i = false → step s = .next { s with seq := .fb f n (i + 1) }) ∧
    (s.seq = .fc f n i → s.enabled i = true →
      step s = .next { s with
        seq := .fc f n (i + 1)
        answers := rest
        log := s.log ++ [.ctl 6 (BitVec.ofNat 8 i) (s.token i) 0 r] }) ∧
    (s.seq = .fc f n i → s.enabled i = false → step s = .next { s with seq := .fc f n (i + 1) })

/-- The FPS estimator (42_sequencer.md R158). The premise on `FRAMECNT` is R47, a part of the invariant. -/
def Obligations.FpsEstimatorStep : Prop :=
  ∀ (s : State) (f : Frame) (r : Word) (rest : List (Option Word)), Answering s r rest → s.seq = .f7 f →
    s.frameCnt.toNat ≤ 65534 →
    let d := (r.toNat + 2 ^ 32 - s.lastMark.toNat) % 2 ^ 32
    (s.frameCnt.toNat + 1 ≥ s.nFrames.toNat →
      step s = .next { s with
        fps := BitVec.ofNat 32 (s.nFrames.toNat * 1000 / if d = 0 then 1 else d)
        frameCnt := 0
        lastMark := r
        seq := .f8a f
        answers := rest
        log := s.log ++ [.ms r] }) ∧
    (s.frameCnt.toNat + 1 < s.nFrames.toNat →
      step s = .next { s with frameCnt := BitVec.ofNat 16 (s.frameCnt.toNat + 1), seq := .f8a f })

/-- The steps of the `DELAY` loop (42_sequencer.md R165, R166). R145 has no row for them: that `ACCURATE_CLOCK` makes
the head of the loop a step without a transaction, and that the response comes in the step of the last sample, is the
model's reading, log 9. -/
def Obligations.DelayLoopSteps : Prop :=
  ∀ (s : State) (d : DelayCtx) (ms m0 r : Word) (rest : List (Option Word)), Answering s r rest →
    let frame : SeqState := .f1 { kind := .leds, color := 0, scale := s.gscale, delay := some d }
    (s.seq = .delayStart ms →
      step s = .next { s with
        seq := .delayTop { start := r, ms := ms }, answers := rest, log := s.log ++ [.ms r] }) ∧
    (s.seq = .delayTop d → s.params.accurateClock = true → step s = .next { s with seq := frame }) ∧
    (s.seq = .delayTop d → s.params.accurateClock = false →
      step s = .next { s with seq := .delaySleep d r, answers := rest, log := s.log ++ [.ms r] }) ∧
    (s.seq = .delaySleep d m0 →
      step s = .next { s with
        seq := if r = m0 then .delaySleep d m0 else frame, answers := rest, log := s.log ++ [.ms r] }) ∧
    (s.seq = .delayYield d →
      step s = .next { s with seq := .delayTest d, answers := rest, log := s.log ++ [.yld] }) ∧
    (s.seq = .delayTest d → (r.toNat + 2 ^ 32 - d.start.toNat) % 2 ^ 32 ≥ d.ms.toNat →
      step s = .next { s with seq := .idle, answers := rest, log := s.log ++ [.ms r, .respond 0 0] }) ∧
    (s.seq = .delayTest d → (r.toNat + 2 ^ 32 - d.start.toNat) % 2 ^ 32 < d.ms.toNat →
      step s = .next { s with seq := .delayTop d, answers := rest, log := s.log ++ [.ms r] })

/-- SEQ is in a state whose step is a transaction or a sample (42_sequencer.md R145; the states that R145 has no row for
are log 9). -/
def AwaitsAnswer (s : State) : Prop :=
  match s.seq with
  | .idle => False
  | .delayStart _ => True
  | .delayTop _ => s.params.accurateClock = false
  | .delaySleep _ _ => True
  | .f1 _ => s.params.manualEvents = false
  | .f2w _ => s.minMicros ≠ 0
  | .f2s _ => True
  | .f3 _ => s.pwrEn = true
  | .fa _ n i => i < n
  | .faSize _ _ _ => True
  | .faBegin _ _ _ _ => True
  | .faDither _ _ _ => s.fps.toNat < 100
  | .fb _ n i => i < n ∧ s.enabled i = true
  | .fc _ n i => i < n ∧ s.enabled i = true
  | .f7 _ => s.frameCnt.toNat + 1 ≥ s.nFrames.toNat
  | .f8a _ => True
  | .f8b _ => s.params.manualEvents = false
  | .delayYield _ => True
  | .delayTest _ => True

/-- A transaction that the environment does not answer leaves the block waiting where it is
(70_reset_and_hazards.md R299). That a step can pass without an answer is log 4. -/
def Obligations.UnansweredTransactionWaits : Prop :=
  ∀ (s : State) (rest : List (Option Word)), AwaitsAnswer s → s.resetIn = [] → s.answers = none :: rest →
    step s = .next { s with answers := rest }

/-- A whole frame (42_sequencer.md R146, R151 to R158): whatever the environment answers, if its answers are those of a
frame, SEQ performs exactly the transactions of R156 in the order of R146 and ends as R158 and R145 say. -/
def Obligations.FrameRunsToItsEnd : Prop :=
  ∀ (s : State) (f : Frame) (a : FrameAnswers) (rest : List (Option Word)),
    s.seq = .f1 f → s.resetIn = [] → s.tok.length = s.params.maxControllers →
    s.enl.length = s.params.maxControllers → s.frameCnt.toNat ≤ 65534 → a.fit s →
    s.answers = (frameIo s f a).map (fun x => some x.1) ++ rest →
    ∃ k, Host.Core.run core k s = .next (frameEnd s f a rest)

/-- The word and the frame of a `SHOW` command: kind, colour and scale (42_sequencer.md R159, R160, R161, R164). -/
def showFrame (s : State) : Instr → Option (Word × Frame)
  | .showS ra =>
    some (wordR 0x40 0 ra 0 0 0,
      { kind := .leds, color := 0, scale := BitVec.ofNat 8 (zextOf 8 (s.reg ra)), delay := none })
  | .showG => some (0x41, { kind := .leds, color := 0, scale := s.gscale, delay := none })
  | .showC ra rb =>
    some (wordR 0x42 0 ra rb 0 0,
      { kind := .color, color := BitVec.ofNat 24 (zextOf 24 (s.reg ra)),
        scale := BitVec.ofNat 8 (zextOf 8 (s.reg rb)), delay := none })
  | .showCG ra =>
    some (wordR 0x43 0 ra 0 0 0,
      { kind := .color, color := BitVec.ofNat 24 (zextOf 24 (s.reg ra)), scale := s.gscale, delay := none })
  | _ => none

/-- A `SHOW` command from its word to its response (42_sequencer.md R159 to R161, R164): sent to an idle block, it runs
its frame and answers `(0, 0)`, and SEQ is idle again. -/
def Obligations.ShowCommandRunsItsFrame : Prop :=
  ∀ (s : State) (i : Instr) (w : Word) (f : Frame) (words : List Word) (a : FrameAnswers) (rest : List (Option Word)),
    showFrame s i = some (w, f) → s.seq = .idle → s.resetIn = [] → s.cmds = w :: words →
    s.tok.length = s.params.maxControllers → s.enl.length = s.params.maxControllers → s.frameCnt.toNat ≤ 65534 →
    a.fit s →
    s.answers = (frameIo s f a).map (fun x => some x.1) ++ rest →
    decodeWord w = .ok i ∧
      ∃ k, Host.Core.run core k s = .next { frameEnd s f a rest with cmds := words, pc := s.pc + 1 }

/-- `Sleep1ms`: `m0`, samples equal to it, and one that differs (42_sequencer.md R166). -/
def sleepIo (m0 : Word) (same : Nat) (m : Word) : Io :=
  (m0, .ms m0) :: (List.replicate same (m0, .ms m0) ++ [(m, .ms m)])

/-- One iteration of `DELAY` (42_sequencer.md R165): the sleep unless `ACCURATE_CLOCK`, one frame of kind LEDS at
`GSCALE`, `YLD`, the sample `now`; the command ends, with its response, exactly when `ms` have elapsed since `start`. -/
def Obligations.DelayIterationRuns : Prop :=
  ∀ (s : State) (d : DelayCtx) (m0 m now yieldAck : Word) (same : Nat) (a : FrameAnswers)
    (rest : List (Option Word)),
    let f : Frame := { kind := .leds, color := 0, scale := s.gscale, delay := some d }
    let before : Io := if s.params.accurateClock then [] else sleepIo m0 same m
    let after : Io := [(yieldAck, .yld), (now, .ms now)]
    s.seq = .delayTop d → s.resetIn = [] → m ≠ m0 →
    s.tok.length = s.params.maxControllers → s.enl.length = s.params.maxControllers → s.frameCnt.toNat ≤ 65534 →
    a.fit s →
    s.answers = (before ++ frameIo s f a ++ after).map (fun x => some x.1) ++ rest →
    ∃ k, Host.Core.run core k s = .next
      (if (now - d.start).toNat ≥ d.ms.toNat then
        { frameEnd s f a rest with
          seq := .idle
          log := s.log ++ (before ++ frameIo s f a ++ after).map Prod.snd ++ [.respond 0 0] }
      else
        { frameEnd s f a rest with
          seq := .delayTop d
          log := s.log ++ (before ++ frameIo s f a ++ after).map Prod.snd })

/-! ### Whole-machine rules -/

/-- The reset state meets the invariant (10_state.md R45, R47), and so does the reset state of a block built with
any legal parameters. -/
def Obligations.ResetMeetsInv : Prop :=
  State.Inv State.reset ∧ ∀ p : Params, p.wellFormed = true → State.Inv (State.resetOf p)

/-- Every step keeps the invariant (10_state.md R30, R42, R47; 43_noise_kernel.md R191). -/
def Obligations.StepKeepsInv : Prop :=
  ∀ s t : State, s.Inv → step s = .next t → t.Inv

/-- Every step only adds to what has been observed, and adds only what the port rules allow: controller indices below
`min(NCTRL, MAX_CONTROLLERS)`, unused fields 0, `SETDITHER` only while `FPS < 100` and never another mode, `EMIT` and
`END` only to controllers found enabled, `END` with the controller's token, kinds 0 to 6 and codes 1 to 3, `PWR` only
when installed and with `PWRDATA`, codes 1 and 3 not under `MANUAL_EVENTS` (20_memory.md R71, R72; 42_sequencer.md
R142, R147, R150 to R157). -/
def Obligations.OnlyAllowedObservations : Prop :=
  ∀ s t : State, s.Inv → step s = .next t → ∃ l, t.log = s.log ++ l ∧ ∀ e, e ∈ l → e.allowedFrom s
end

