-- ==== Sys2Proof/Laws/Decode.lean ====
section
/-! SUPPORT. The words of the three formats as numbers (30_encoding.md R81 to R83). -/

namespace Sys2Proof

/-- Concatenation as a number. -/
theorem toNat_concat {m n : Nat} (x : BitVec m) (y : BitVec n) : (x ++ y).toNat = x.toNat * 2 ^ n + y.toNat := by
  rw [BitVec.toNat_append, ← Nat.shiftLeft_add_eq_or_of_lt y.isLt, Nat.shiftLeft_eq]

theorem Op.code_lt (o : Op) : o.code < 256 := by
  cases o <;> decide

/-- A format R word as a number. -/
theorem formatR_eq (o : Op) (rd ra rb rc re : Reg) :
    formatR o rd ra rb rc re =
      BitVec.ofNat 32 (o.code + rd * 2 ^ 8 + ra * 2 ^ 12 + rb * 2 ^ 16 + rc * 2 ^ 20 + re * 2 ^ 24) := by
  apply BitVec.eq_of_toNat_eq
  have := o.code_lt
  unfold formatR regField
  simp only [toNat_concat, BitVec.toNat_ofFin, BitVec.toNat_ofNat]
  omega

/-- A format I word as a number. -/
theorem formatI_eq (o : Op) (rd : Reg) (imm16 : Half) :
    formatI o rd imm16 = BitVec.ofNat 32 (o.code + rd * 2 ^ 8 + imm16.toNat * 2 ^ 12) := by
  apply BitVec.eq_of_toNat_eq
  have := o.code_lt
  have := imm16.isLt
  unfold formatI regField
  simp only [toNat_concat, BitVec.toNat_ofFin, BitVec.toNat_ofNat]
  omega

/-- A format C word as a number. -/
theorem formatC_eq (o : Op) (rd ra : Reg) (csr : Byte) :
    formatC o rd ra csr = BitVec.ofNat 32 (o.code + rd * 2 ^ 8 + ra * 2 ^ 12 + csr.toNat * 2 ^ 16) := by
  apply BitVec.eq_of_toNat_eq
  have := o.code_lt
  have := csr.isLt
  unfold formatC regField
  simp only [toNat_concat, BitVec.toNat_ofFin, BitVec.toNat_ofNat]
  omega

end Sys2Proof
end

