-- ==== Sys2Proof/Laws/Kernel.lean ====
section
/-! SUPPORT. Small lemmas of the math kernel and the noise kernel. -/

namespace Sys2Proof.Machine

/-! ### Scale, lerp -/

theorem scale8_le (v : Nat) {s : Nat} (h : s < 256) : scale8 v s ≤ v := by
  have : v * s ≤ v * 256 := Nat.mul_le_mul_left v (by omega)
  unfold scale8
  omega

theorem scale16_le (v : Nat) {s : Nat} (h : s < 65536) : scale16 v s ≤ v := by
  have : v * s ≤ v * 65536 := Nat.mul_le_mul_left v (by omega)
  unfold scale16
  omega

@[simp] theorem scale8_zero (v : Nat) : scale8 v 0 = 0 := by
  simp [scale8]

@[simp] theorem scale16_zero (v : Nat) : scale16 v 0 = 0 := by
  simp [scale16]

/-- A lerp lies between its ends when its scale shrinks. -/
theorem lerpBy_between {scale : Nat → Nat → Nat} {f : Nat} (h : ∀ v, scale v f ≤ v) (a b : Int) :
    min a b ≤ lerpBy scale a b f ∧ lerpBy scale a b f ≤ max a b := by
  unfold lerpBy
  split
  · have := h (b - a).toNat
    omega
  · have := h (a - b).toNat
    omega

/-- A lerp returns its first end when its scale is 0 (43_noise_kernel.md R209). -/
theorem lerpBy_zero {scale : Nat → Nat → Nat} {f : Nat} (h : ∀ v, scale v f = 0) (a b : Int) :
    lerpBy scale a b f = a := by
  simp [lerpBy, h]

@[simp] theorem lerp_zero (w : Width) (a b : Int) : w.lerp a b 0 = a := by
  cases w
  · exact lerpBy_zero scale16_zero a b
  · exact lerpBy_zero scale8_zero a b

/-! ### Gradients -/

@[simp] theorem avg_zero (w : Width) : w.avg 0 0 = 0 := by
  cases w <;> rfl

@[simp] theorem neg_zero (w : Width) : w.neg 0 = 0 := by
  cases w <;> rfl

@[simp] theorem gradEnd_zero (w : Width) (h : Nat) : gradEnd w h 0 0 = 0 := by
  simp [gradEnd]

@[simp] theorem grad1_zero (w : Width) (h : Byte) : grad1 w h 0 = 0 := by
  simp [grad1]

@[simp] theorem grad2_zero (w : Width) (h : Byte) : grad2 w h 0 0 = 0 := by
  simp [grad2]

@[simp] theorem grad3_zero (w : Width) (h : Byte) : grad3 w h 0 0 0 = 0 := by
  simp [grad3, grad3Sel]

/-! ### Axes -/

/-- The fade of fraction 0, under either selection. -/
@[simp] theorem fade_zero (p : Params) (w : Width) : fade p w 0 = 0 := by
  cases w <;> cases h : p.easeSel <;> simp [fade, h, Width.ease, Width.scale, ease16, ease8, scale8, scale16]

/-- The near corner's own coordinate. -/
@[simp] theorem at_near (a : Axis) (w : Width) : a.at w 0 = a.near := by
  simp [Axis.at]

@[simp] theorem axisOf_cell (p : Params) (w : Width) (c : Byte) (f : Nat) : (axisOf p w c f).cell = c := rfl

@[simp] theorem axisOf_near (p : Params) (w : Width) (c : Byte) (f : Nat) :
    (axisOf p w c f).near = f / 2 % w.step := rfl

@[simp] theorem axisOf_fade (p : Params) (w : Width) (c : Byte) (f : Nat) :
    (axisOf p w c f).fade = fade p w f := rfl

end Sys2Proof.Machine
end

