-- ==== Sys2Proof/Laws/Memory.lean ====
section
/-! SUPPORT. The permutation ROM: writing a table down keeps the canonical form and reads back as the table. -/

namespace Sys2Proof

/-- The canonical form from a higher address is one from a lower address. -/
theorem Memory.wfFrom_mono {lo lo' : Nat} (h : lo ≤ lo') :
    ∀ m : Memory, Memory.wfFrom lo' m = true → Memory.wfFrom lo m = true
  | [], _ => rfl
  | c :: m, hm => by
    simp only [Memory.wfFrom, Bool.and_eq_true, decide_eq_true_eq] at hm ⊢
    exact ⟨⟨⟨by omega, hm.1.1.2⟩, hm.1.2⟩, hm.2⟩

/-- A table within the address space is written down in canonical form. -/
theorem Memory.ofTableFrom_wf :
    ∀ (t : List Byte) (lo : Nat), lo + t.length ≤ 257 → Memory.wfFrom lo (Memory.ofTableFrom lo t) = true
  | [], _, _ => rfl
  | b :: t, lo, h => by
    simp only [List.length_cons] at h
    have ih := Memory.ofTableFrom_wf t (lo + 1) (by omega)
    by_cases hb : b = Memory.unlisted lo
    · simpa [Memory.ofTableFrom, hb] using Memory.wfFrom_mono (Nat.le_succ lo) _ ih
    · simp [Memory.ofTableFrom, Memory.wfFrom, hb, ih]
      omega

theorem Memory.ofTable_wf (t : List Byte) (h : t.length ≤ 257) : (Memory.ofTable t).wf = true :=
  Memory.ofTableFrom_wf t 0 (by omega)

/-- Below its first address a written table lists nothing. -/
theorem Memory.lookup_below :
    ∀ (t : List Byte) (lo a : Nat), a < lo → Memory.lookup a (Memory.ofTableFrom lo t) = Memory.unlisted a
  | [], _, _, _ => rfl
  | b :: t, lo, a, h => by
    have ih := Memory.lookup_below t (lo + 1) a (by omega)
    by_cases hb : b = Memory.unlisted lo
    · simpa [Memory.ofTableFrom, hb] using ih
    · simpa [Memory.ofTableFrom, hb, Memory.lookup, show lo ≠ a by omega] using ih

/-- Reading after writing a table gives the table. -/
theorem Memory.lookup_ofTableFrom :
    ∀ (t : List Byte) (lo i : Nat) (h : i < t.length),
      Memory.lookup (lo + i) (Memory.ofTableFrom lo t) = t[i]
  | b :: t, lo, 0, _ => by
    by_cases hb : b = Memory.unlisted lo
    · simpa [Memory.ofTableFrom, hb] using Memory.lookup_below t (lo + 1) lo (by omega)
    · simp [Memory.ofTableFrom, hb, Memory.lookup]
  | b :: t, lo, i + 1, h => by
    have ih := Memory.lookup_ofTableFrom t (lo + 1) i (by simpa using h)
    have e : lo + (i + 1) = lo + 1 + i := by omega
    by_cases hb : b = Memory.unlisted lo
    · simpa [Memory.ofTableFrom, hb, e] using ih
    · simpa [Memory.ofTableFrom, hb, Memory.lookup, e, show lo ≠ lo + 1 + i by omega] using ih

/-- The ROM that holds a table reads as the table. -/
theorem Memory.read_ofTable (t : List Byte) (i : Fin 257) (h : i.val < t.length) :
    (Memory.ofTable t).read i = t[i.val] := by
  simpa [Memory.read, Memory.ofTable] using Memory.lookup_ofTableFrom t 0 i.val h

end Sys2Proof
end

