-- ==== Sys2Proof/Laws/State.lean ====
section
/-! SUPPORT. One lemma per field per update of State. -/

namespace Sys2Proof.Machine

variable (s : State)

/-! ### `setReg` -/

@[simp] theorem setReg_g (r : Reg) (v : Word) : (s.setReg r v).g = s.g.set r v := rfl
@[simp] theorem setReg_errIll (r : Reg) (v : Word) : (s.setReg r v).errIll = s.errIll := rfl
@[simp] theorem setReg_errCsre (r : Reg) (v : Word) : (s.setReg r v).errCsre = s.errCsre := rfl
@[simp] theorem setReg_gscale (r : Reg) (v : Word) : (s.setReg r v).gscale = s.gscale := rfl
@[simp] theorem setReg_minMicros (r : Reg) (v : Word) : (s.setReg r v).minMicros = s.minMicros := rfl
@[simp] theorem setReg_lastShow (r : Reg) (v : Word) : (s.setReg r v).lastShow = s.lastShow := rfl
@[simp] theorem setReg_nFrames (r : Reg) (v : Word) : (s.setReg r v).nFrames = s.nFrames := rfl
@[simp] theorem setReg_fps (r : Reg) (v : Word) : (s.setReg r v).fps = s.fps := rfl
@[simp] theorem setReg_frameCnt (r : Reg) (v : Word) : (s.setReg r v).frameCnt = s.frameCnt := rfl
@[simp] theorem setReg_lastMark (r : Reg) (v : Word) : (s.setReg r v).lastMark = s.lastMark := rfl
@[simp] theorem setReg_nCtrl (r : Reg) (v : Word) : (s.setReg r v).nCtrl = s.nCtrl := rfl
@[simp] theorem setReg_pwrEn (r : Reg) (v : Word) : (s.setReg r v).pwrEn = s.pwrEn := rfl
@[simp] theorem setReg_pwrData (r : Reg) (v : Word) : (s.setReg r v).pwrData = s.pwrData := rfl
@[simp] theorem setReg_tok (r : Reg) (v : Word) : (s.setReg r v).tok = s.tok := rfl
@[simp] theorem setReg_enl (r : Reg) (v : Word) : (s.setReg r v).enl = s.enl := rfl
@[simp] theorem setReg_seq (r : Reg) (v : Word) : (s.setReg r v).seq = s.seq := rfl
@[simp] theorem setReg_params (r : Reg) (v : Word) : (s.setReg r v).params = s.params := rfl
@[simp] theorem setReg_cmds (r : Reg) (v : Word) : (s.setReg r v).cmds = s.cmds := rfl
@[simp] theorem setReg_pc (r : Reg) (v : Word) : (s.setReg r v).pc = s.pc := rfl
@[simp] theorem setReg_answers (r : Reg) (v : Word) : (s.setReg r v).answers = s.answers := rfl
@[simp] theorem setReg_drawIx (r : Reg) (v : Word) : (s.setReg r v).drawIx = s.drawIx := rfl
@[simp] theorem setReg_resetIn (r : Reg) (v : Word) : (s.setReg r v).resetIn = s.resetIn := rfl
@[simp] theorem setReg_log (r : Reg) (v : Word) : (s.setReg r v).log = s.log := rfl

/-! ### `record` -/

@[simp] theorem record_g (e : IoEvent) : (s.record e).g = s.g := rfl
@[simp] theorem record_errIll (e : IoEvent) : (s.record e).errIll = s.errIll := rfl
@[simp] theorem record_errCsre (e : IoEvent) : (s.record e).errCsre = s.errCsre := rfl
@[simp] theorem record_gscale (e : IoEvent) : (s.record e).gscale = s.gscale := rfl
@[simp] theorem record_minMicros (e : IoEvent) : (s.record e).minMicros = s.minMicros := rfl
@[simp] theorem record_lastShow (e : IoEvent) : (s.record e).lastShow = s.lastShow := rfl
@[simp] theorem record_nFrames (e : IoEvent) : (s.record e).nFrames = s.nFrames := rfl
@[simp] theorem record_fps (e : IoEvent) : (s.record e).fps = s.fps := rfl
@[simp] theorem record_frameCnt (e : IoEvent) : (s.record e).frameCnt = s.frameCnt := rfl
@[simp] theorem record_lastMark (e : IoEvent) : (s.record e).lastMark = s.lastMark := rfl
@[simp] theorem record_nCtrl (e : IoEvent) : (s.record e).nCtrl = s.nCtrl := rfl
@[simp] theorem record_pwrEn (e : IoEvent) : (s.record e).pwrEn = s.pwrEn := rfl
@[simp] theorem record_pwrData (e : IoEvent) : (s.record e).pwrData = s.pwrData := rfl
@[simp] theorem record_tok (e : IoEvent) : (s.record e).tok = s.tok := rfl
@[simp] theorem record_enl (e : IoEvent) : (s.record e).enl = s.enl := rfl
@[simp] theorem record_seq (e : IoEvent) : (s.record e).seq = s.seq := rfl
@[simp] theorem record_params (e : IoEvent) : (s.record e).params = s.params := rfl
@[simp] theorem record_cmds (e : IoEvent) : (s.record e).cmds = s.cmds := rfl
@[simp] theorem record_pc (e : IoEvent) : (s.record e).pc = s.pc := rfl
@[simp] theorem record_answers (e : IoEvent) : (s.record e).answers = s.answers := rfl
@[simp] theorem record_drawIx (e : IoEvent) : (s.record e).drawIx = s.drawIx := rfl
@[simp] theorem record_resetIn (e : IoEvent) : (s.record e).resetIn = s.resetIn := rfl
@[simp] theorem record_log (e : IoEvent) : (s.record e).log = s.log ++ [e] := rfl

/-! ### `respond` -/

@[simp] theorem respond_g (d : Word) : (s.respond d).g = s.g := rfl
@[simp] theorem respond_errIll (d : Word) : (s.respond d).errIll = s.errIll := rfl
@[simp] theorem respond_errCsre (d : Word) : (s.respond d).errCsre = s.errCsre := rfl
@[simp] theorem respond_gscale (d : Word) : (s.respond d).gscale = s.gscale := rfl
@[simp] theorem respond_minMicros (d : Word) : (s.respond d).minMicros = s.minMicros := rfl
@[simp] theorem respond_lastShow (d : Word) : (s.respond d).lastShow = s.lastShow := rfl
@[simp] theorem respond_nFrames (d : Word) : (s.respond d).nFrames = s.nFrames := rfl
@[simp] theorem respond_fps (d : Word) : (s.respond d).fps = s.fps := rfl
@[simp] theorem respond_frameCnt (d : Word) : (s.respond d).frameCnt = s.frameCnt := rfl
@[simp] theorem respond_lastMark (d : Word) : (s.respond d).lastMark = s.lastMark := rfl
@[simp] theorem respond_nCtrl (d : Word) : (s.respond d).nCtrl = s.nCtrl := rfl
@[simp] theorem respond_pwrEn (d : Word) : (s.respond d).pwrEn = s.pwrEn := rfl
@[simp] theorem respond_pwrData (d : Word) : (s.respond d).pwrData = s.pwrData := rfl
@[simp] theorem respond_tok (d : Word) : (s.respond d).tok = s.tok := rfl
@[simp] theorem respond_enl (d : Word) : (s.respond d).enl = s.enl := rfl
@[simp] theorem respond_seq (d : Word) : (s.respond d).seq = s.seq := rfl
@[simp] theorem respond_params (d : Word) : (s.respond d).params = s.params := rfl
@[simp] theorem respond_cmds (d : Word) : (s.respond d).cmds = s.cmds := rfl
@[simp] theorem respond_pc (d : Word) : (s.respond d).pc = s.pc := rfl
@[simp] theorem respond_answers (d : Word) : (s.respond d).answers = s.answers := rfl
@[simp] theorem respond_drawIx (d : Word) : (s.respond d).drawIx = s.drawIx := rfl
@[simp] theorem respond_resetIn (d : Word) : (s.respond d).resetIn = s.resetIn := rfl
@[simp] theorem respond_log (d : Word) : (s.respond d).log = s.log ++ [.respond 0 d] := rfl

/-! ### `writeResult` -/

@[simp] theorem writeResult_g (r : Reg) (v : Word) : (s.writeResult r v).g = s.g.set r v := rfl
@[simp] theorem writeResult_errIll (r : Reg) (v : Word) : (s.writeResult r v).errIll = s.errIll := rfl
@[simp] theorem writeResult_errCsre (r : Reg) (v : Word) : (s.writeResult r v).errCsre = s.errCsre := rfl
@[simp] theorem writeResult_gscale (r : Reg) (v : Word) : (s.writeResult r v).gscale = s.gscale := rfl
@[simp] theorem writeResult_minMicros (r : Reg) (v : Word) : (s.writeResult r v).minMicros = s.minMicros := rfl
@[simp] theorem writeResult_lastShow (r : Reg) (v : Word) : (s.writeResult r v).lastShow = s.lastShow := rfl
@[simp] theorem writeResult_nFrames (r : Reg) (v : Word) : (s.writeResult r v).nFrames = s.nFrames := rfl
@[simp] theorem writeResult_fps (r : Reg) (v : Word) : (s.writeResult r v).fps = s.fps := rfl
@[simp] theorem writeResult_frameCnt (r : Reg) (v : Word) : (s.writeResult r v).frameCnt = s.frameCnt := rfl
@[simp] theorem writeResult_lastMark (r : Reg) (v : Word) : (s.writeResult r v).lastMark = s.lastMark := rfl
@[simp] theorem writeResult_nCtrl (r : Reg) (v : Word) : (s.writeResult r v).nCtrl = s.nCtrl := rfl
@[simp] theorem writeResult_pwrEn (r : Reg) (v : Word) : (s.writeResult r v).pwrEn = s.pwrEn := rfl
@[simp] theorem writeResult_pwrData (r : Reg) (v : Word) : (s.writeResult r v).pwrData = s.pwrData := rfl
@[simp] theorem writeResult_tok (r : Reg) (v : Word) : (s.writeResult r v).tok = s.tok := rfl
@[simp] theorem writeResult_enl (r : Reg) (v : Word) : (s.writeResult r v).enl = s.enl := rfl
@[simp] theorem writeResult_seq (r : Reg) (v : Word) : (s.writeResult r v).seq = s.seq := rfl
@[simp] theorem writeResult_params (r : Reg) (v : Word) : (s.writeResult r v).params = s.params := rfl
@[simp] theorem writeResult_cmds (r : Reg) (v : Word) : (s.writeResult r v).cmds = s.cmds := rfl
@[simp] theorem writeResult_pc (r : Reg) (v : Word) : (s.writeResult r v).pc = s.pc := rfl
@[simp] theorem writeResult_answers (r : Reg) (v : Word) : (s.writeResult r v).answers = s.answers := rfl
@[simp] theorem writeResult_drawIx (r : Reg) (v : Word) : (s.writeResult r v).drawIx = s.drawIx := rfl
@[simp] theorem writeResult_resetIn (r : Reg) (v : Word) : (s.writeResult r v).resetIn = s.resetIn := rfl
@[simp] theorem writeResult_log (r : Reg) (v : Word) : (s.writeResult r v).log = s.log ++ [.respond 0 v] := rfl

/-! ### `goto` -/

@[simp] theorem goto_g (q : SeqState) : (s.goto q).g = s.g := rfl
@[simp] theorem goto_errIll (q : SeqState) : (s.goto q).errIll = s.errIll := rfl
@[simp] theorem goto_errCsre (q : SeqState) : (s.goto q).errCsre = s.errCsre := rfl
@[simp] theorem goto_gscale (q : SeqState) : (s.goto q).gscale = s.gscale := rfl
@[simp] theorem goto_minMicros (q : SeqState) : (s.goto q).minMicros = s.minMicros := rfl
@[simp] theorem goto_lastShow (q : SeqState) : (s.goto q).lastShow = s.lastShow := rfl
@[simp] theorem goto_nFrames (q : SeqState) : (s.goto q).nFrames = s.nFrames := rfl
@[simp] theorem goto_fps (q : SeqState) : (s.goto q).fps = s.fps := rfl
@[simp] theorem goto_frameCnt (q : SeqState) : (s.goto q).frameCnt = s.frameCnt := rfl
@[simp] theorem goto_lastMark (q : SeqState) : (s.goto q).lastMark = s.lastMark := rfl
@[simp] theorem goto_nCtrl (q : SeqState) : (s.goto q).nCtrl = s.nCtrl := rfl
@[simp] theorem goto_pwrEn (q : SeqState) : (s.goto q).pwrEn = s.pwrEn := rfl
@[simp] theorem goto_pwrData (q : SeqState) : (s.goto q).pwrData = s.pwrData := rfl
@[simp] theorem goto_tok (q : SeqState) : (s.goto q).tok = s.tok := rfl
@[simp] theorem goto_enl (q : SeqState) : (s.goto q).enl = s.enl := rfl
@[simp] theorem goto_seq (q : SeqState) : (s.goto q).seq = q := rfl
@[simp] theorem goto_params (q : SeqState) : (s.goto q).params = s.params := rfl
@[simp] theorem goto_cmds (q : SeqState) : (s.goto q).cmds = s.cmds := rfl
@[simp] theorem goto_pc (q : SeqState) : (s.goto q).pc = s.pc := rfl
@[simp] theorem goto_answers (q : SeqState) : (s.goto q).answers = s.answers := rfl
@[simp] theorem goto_drawIx (q : SeqState) : (s.goto q).drawIx = s.drawIx := rfl
@[simp] theorem goto_resetIn (q : SeqState) : (s.goto q).resetIn = s.resetIn := rfl
@[simp] theorem goto_log (q : SeqState) : (s.goto q).log = s.log := rfl

/-! ### `setEnabled` -/

@[simp] theorem setEnabled_g (i : Nat) (b : Bool) : (s.setEnabled i b).g = s.g := rfl
@[simp] theorem setEnabled_errIll (i : Nat) (b : Bool) : (s.setEnabled i b).errIll = s.errIll := rfl
@[simp] theorem setEnabled_errCsre (i : Nat) (b : Bool) : (s.setEnabled i b).errCsre = s.errCsre := rfl
@[simp] theorem setEnabled_gscale (i : Nat) (b : Bool) : (s.setEnabled i b).gscale = s.gscale := rfl
@[simp] theorem setEnabled_minMicros (i : Nat) (b : Bool) : (s.setEnabled i b).minMicros = s.minMicros := rfl
@[simp] theorem setEnabled_lastShow (i : Nat) (b : Bool) : (s.setEnabled i b).lastShow = s.lastShow := rfl
@[simp] theorem setEnabled_nFrames (i : Nat) (b : Bool) : (s.setEnabled i b).nFrames = s.nFrames := rfl
@[simp] theorem setEnabled_fps (i : Nat) (b : Bool) : (s.setEnabled i b).fps = s.fps := rfl
@[simp] theorem setEnabled_frameCnt (i : Nat) (b : Bool) : (s.setEnabled i b).frameCnt = s.frameCnt := rfl
@[simp] theorem setEnabled_lastMark (i : Nat) (b : Bool) : (s.setEnabled i b).lastMark = s.lastMark := rfl
@[simp] theorem setEnabled_nCtrl (i : Nat) (b : Bool) : (s.setEnabled i b).nCtrl = s.nCtrl := rfl
@[simp] theorem setEnabled_pwrEn (i : Nat) (b : Bool) : (s.setEnabled i b).pwrEn = s.pwrEn := rfl
@[simp] theorem setEnabled_pwrData (i : Nat) (b : Bool) : (s.setEnabled i b).pwrData = s.pwrData := rfl
@[simp] theorem setEnabled_tok (i : Nat) (b : Bool) : (s.setEnabled i b).tok = s.tok := rfl
@[simp] theorem setEnabled_enl (i : Nat) (b : Bool) : (s.setEnabled i b).enl = s.enl.set i b := rfl
@[simp] theorem setEnabled_seq (i : Nat) (b : Bool) : (s.setEnabled i b).seq = s.seq := rfl
@[simp] theorem setEnabled_params (i : Nat) (b : Bool) : (s.setEnabled i b).params = s.params := rfl
@[simp] theorem setEnabled_cmds (i : Nat) (b : Bool) : (s.setEnabled i b).cmds = s.cmds := rfl
@[simp] theorem setEnabled_pc (i : Nat) (b : Bool) : (s.setEnabled i b).pc = s.pc := rfl
@[simp] theorem setEnabled_answers (i : Nat) (b : Bool) : (s.setEnabled i b).answers = s.answers := rfl
@[simp] theorem setEnabled_drawIx (i : Nat) (b : Bool) : (s.setEnabled i b).drawIx = s.drawIx := rfl
@[simp] theorem setEnabled_resetIn (i : Nat) (b : Bool) : (s.setEnabled i b).resetIn = s.resetIn := rfl
@[simp] theorem setEnabled_log (i : Nat) (b : Bool) : (s.setEnabled i b).log = s.log := rfl

/-! ### `setToken` -/

@[simp] theorem setToken_g (i : Nat) (t : Word) : (s.setToken i t).g = s.g := rfl
@[simp] theorem setToken_errIll (i : Nat) (t : Word) : (s.setToken i t).errIll = s.errIll := rfl
@[simp] theorem setToken_errCsre (i : Nat) (t : Word) : (s.setToken i t).errCsre = s.errCsre := rfl
@[simp] theorem setToken_gscale (i : Nat) (t : Word) : (s.setToken i t).gscale = s.gscale := rfl
@[simp] theorem setToken_minMicros (i : Nat) (t : Word) : (s.setToken i t).minMicros = s.minMicros := rfl
@[simp] theorem setToken_lastShow (i : Nat) (t : Word) : (s.setToken i t).lastShow = s.lastShow := rfl
@[simp] theorem setToken_nFrames (i : Nat) (t : Word) : (s.setToken i t).nFrames = s.nFrames := rfl
@[simp] theorem setToken_fps (i : Nat) (t : Word) : (s.setToken i t).fps = s.fps := rfl
@[simp] theorem setToken_frameCnt (i : Nat) (t : Word) : (s.setToken i t).frameCnt = s.frameCnt := rfl
@[simp] theorem setToken_lastMark (i : Nat) (t : Word) : (s.setToken i t).lastMark = s.lastMark := rfl
@[simp] theorem setToken_nCtrl (i : Nat) (t : Word) : (s.setToken i t).nCtrl = s.nCtrl := rfl
@[simp] theorem setToken_pwrEn (i : Nat) (t : Word) : (s.setToken i t).pwrEn = s.pwrEn := rfl
@[simp] theorem setToken_pwrData (i : Nat) (t : Word) : (s.setToken i t).pwrData = s.pwrData := rfl
@[simp] theorem setToken_tok (i : Nat) (t : Word) : (s.setToken i t).tok = s.tok.set i t := rfl
@[simp] theorem setToken_enl (i : Nat) (t : Word) : (s.setToken i t).enl = s.enl := rfl
@[simp] theorem setToken_seq (i : Nat) (t : Word) : (s.setToken i t).seq = s.seq := rfl
@[simp] theorem setToken_params (i : Nat) (t : Word) : (s.setToken i t).params = s.params := rfl
@[simp] theorem setToken_cmds (i : Nat) (t : Word) : (s.setToken i t).cmds = s.cmds := rfl
@[simp] theorem setToken_pc (i : Nat) (t : Word) : (s.setToken i t).pc = s.pc := rfl
@[simp] theorem setToken_answers (i : Nat) (t : Word) : (s.setToken i t).answers = s.answers := rfl
@[simp] theorem setToken_drawIx (i : Nat) (t : Word) : (s.setToken i t).drawIx = s.drawIx := rfl
@[simp] theorem setToken_resetIn (i : Nat) (t : Word) : (s.setToken i t).resetIn = s.resetIn := rfl
@[simp] theorem setToken_log (i : Nat) (t : Word) : (s.setToken i t).log = s.log := rfl

/-! ### `estimate` -/

@[simp] theorem estimate_g (now : Word) : (s.estimate now).g = s.g := rfl
@[simp] theorem estimate_errIll (now : Word) : (s.estimate now).errIll = s.errIll := rfl
@[simp] theorem estimate_errCsre (now : Word) : (s.estimate now).errCsre = s.errCsre := rfl
@[simp] theorem estimate_gscale (now : Word) : (s.estimate now).gscale = s.gscale := rfl
@[simp] theorem estimate_minMicros (now : Word) : (s.estimate now).minMicros = s.minMicros := rfl
@[simp] theorem estimate_lastShow (now : Word) : (s.estimate now).lastShow = s.lastShow := rfl
@[simp] theorem estimate_nFrames (now : Word) : (s.estimate now).nFrames = s.nFrames := rfl
@[simp] theorem estimate_frameCnt (now : Word) : (s.estimate now).frameCnt = 0 := rfl
@[simp] theorem estimate_lastMark (now : Word) : (s.estimate now).lastMark = now := rfl
@[simp] theorem estimate_nCtrl (now : Word) : (s.estimate now).nCtrl = s.nCtrl := rfl
@[simp] theorem estimate_pwrEn (now : Word) : (s.estimate now).pwrEn = s.pwrEn := rfl
@[simp] theorem estimate_pwrData (now : Word) : (s.estimate now).pwrData = s.pwrData := rfl
@[simp] theorem estimate_tok (now : Word) : (s.estimate now).tok = s.tok := rfl
@[simp] theorem estimate_enl (now : Word) : (s.estimate now).enl = s.enl := rfl
@[simp] theorem estimate_seq (now : Word) : (s.estimate now).seq = s.seq := rfl
@[simp] theorem estimate_params (now : Word) : (s.estimate now).params = s.params := rfl
@[simp] theorem estimate_cmds (now : Word) : (s.estimate now).cmds = s.cmds := rfl
@[simp] theorem estimate_pc (now : Word) : (s.estimate now).pc = s.pc := rfl
@[simp] theorem estimate_answers (now : Word) : (s.estimate now).answers = s.answers := rfl
@[simp] theorem estimate_drawIx (now : Word) : (s.estimate now).drawIx = s.drawIx := rfl
@[simp] theorem estimate_resetIn (now : Word) : (s.estimate now).resetIn = s.resetIn := rfl
@[simp] theorem estimate_log (now : Word) : (s.estimate now).log = s.log := rfl

/-! ### `tick` -/

@[simp] theorem tick_g : s.tick.g = s.g := rfl
@[simp] theorem tick_errIll : s.tick.errIll = s.errIll := rfl
@[simp] theorem tick_errCsre : s.tick.errCsre = s.errCsre := rfl
@[simp] theorem tick_gscale : s.tick.gscale = s.gscale := rfl
@[simp] theorem tick_minMicros : s.tick.minMicros = s.minMicros := rfl
@[simp] theorem tick_lastShow : s.tick.lastShow = s.lastShow := rfl
@[simp] theorem tick_nFrames : s.tick.nFrames = s.nFrames := rfl
@[simp] theorem tick_fps : s.tick.fps = s.fps := rfl
@[simp] theorem tick_frameCnt : s.tick.frameCnt = s.frameCnt := rfl
@[simp] theorem tick_lastMark : s.tick.lastMark = s.lastMark := rfl
@[simp] theorem tick_nCtrl : s.tick.nCtrl = s.nCtrl := rfl
@[simp] theorem tick_pwrEn : s.tick.pwrEn = s.pwrEn := rfl
@[simp] theorem tick_pwrData : s.tick.pwrData = s.pwrData := rfl
@[simp] theorem tick_tok : s.tick.tok = s.tok := rfl
@[simp] theorem tick_enl : s.tick.enl = s.enl := rfl
@[simp] theorem tick_seq : s.tick.seq = s.seq := rfl
@[simp] theorem tick_params : s.tick.params = s.params := rfl
@[simp] theorem tick_cmds : s.tick.cmds = s.cmds := rfl
@[simp] theorem tick_pc : s.tick.pc = s.pc := rfl
@[simp] theorem tick_answers : s.tick.answers = s.answers := rfl
@[simp] theorem tick_drawIx : s.tick.drawIx = s.drawIx := rfl
@[simp] theorem tick_resetIn : s.tick.resetIn = s.resetIn.tail := rfl
@[simp] theorem tick_log : s.tick.log = s.log := rfl

/-! ### `setErr` -/

@[simp] theorem setErr_g (c : IllegalCause) : (s.setErr c).g = s.g := by cases c <;> simp [State.setErr]
@[simp] theorem setErr_errIll (c : IllegalCause) : (s.setErr c).errIll = (s.errIll || decide (c = .command)) := by cases c <;> simp [State.setErr]
@[simp] theorem setErr_errCsre (c : IllegalCause) : (s.setErr c).errCsre = (s.errCsre || decide (c = .csr)) := by cases c <;> simp [State.setErr]
@[simp] theorem setErr_gscale (c : IllegalCause) : (s.setErr c).gscale = s.gscale := by cases c <;> simp [State.setErr]
@[simp] theorem setErr_minMicros (c : IllegalCause) : (s.setErr c).minMicros = s.minMicros := by cases c <;> simp [State.setErr]
@[simp] theorem setErr_lastShow (c : IllegalCause) : (s.setErr c).lastShow = s.lastShow := by cases c <;> simp [State.setErr]
@[simp] theorem setErr_nFrames (c : IllegalCause) : (s.setErr c).nFrames = s.nFrames := by cases c <;> simp [State.setErr]
@[simp] theorem setErr_fps (c : IllegalCause) : (s.setErr c).fps = s.fps := by cases c <;> simp [State.setErr]
@[simp] theorem setErr_frameCnt (c : IllegalCause) : (s.setErr c).frameCnt = s.frameCnt := by cases c <;> simp [State.setErr]
@[simp] theorem setErr_lastMark (c : IllegalCause) : (s.setErr c).lastMark = s.lastMark := by cases c <;> simp [State.setErr]
@[simp] theorem setErr_nCtrl (c : IllegalCause) : (s.setErr c).nCtrl = s.nCtrl := by cases c <;> simp [State.setErr]
@[simp] theorem setErr_pwrEn (c : IllegalCause) : (s.setErr c).pwrEn = s.pwrEn := by cases c <;> simp [State.setErr]
@[simp] theorem setErr_pwrData (c : IllegalCause) : (s.setErr c).pwrData = s.pwrData := by cases c <;> simp [State.setErr]
@[simp] theorem setErr_tok (c : IllegalCause) : (s.setErr c).tok = s.tok := by cases c <;> simp [State.setErr]
@[simp] theorem setErr_enl (c : IllegalCause) : (s.setErr c).enl = s.enl := by cases c <;> simp [State.setErr]
@[simp] theorem setErr_seq (c : IllegalCause) : (s.setErr c).seq = s.seq := by cases c <;> simp [State.setErr]
@[simp] theorem setErr_params (c : IllegalCause) : (s.setErr c).params = s.params := by cases c <;> simp [State.setErr]
@[simp] theorem setErr_cmds (c : IllegalCause) : (s.setErr c).cmds = s.cmds := by cases c <;> simp [State.setErr]
@[simp] theorem setErr_pc (c : IllegalCause) : (s.setErr c).pc = s.pc := by cases c <;> simp [State.setErr]
@[simp] theorem setErr_answers (c : IllegalCause) : (s.setErr c).answers = s.answers := by cases c <;> simp [State.setErr]
@[simp] theorem setErr_drawIx (c : IllegalCause) : (s.setErr c).drawIx = s.drawIx := by cases c <;> simp [State.setErr]
@[simp] theorem setErr_resetIn (c : IllegalCause) : (s.setErr c).resetIn = s.resetIn := by cases c <;> simp [State.setErr]
@[simp] theorem setErr_log (c : IllegalCause) : (s.setErr c).log = s.log := by cases c <;> simp [State.setErr]

/-! ### `raiseIllegal` -/

@[simp] theorem raiseIllegal_g (c : IllegalCause) : (s.raiseIllegal c).g = s.g := by cases c <;> simp [State.raiseIllegal, State.record, State.setErr]
@[simp] theorem raiseIllegal_errIll (c : IllegalCause) : (s.raiseIllegal c).errIll = (s.errIll || decide (c = .command)) := by cases c <;> simp [State.raiseIllegal, State.record, State.setErr]
@[simp] theorem raiseIllegal_errCsre (c : IllegalCause) : (s.raiseIllegal c).errCsre = (s.errCsre || decide (c = .csr)) := by cases c <;> simp [State.raiseIllegal, State.record, State.setErr]
@[simp] theorem raiseIllegal_gscale (c : IllegalCause) : (s.raiseIllegal c).gscale = s.gscale := by cases c <;> simp [State.raiseIllegal, State.record, State.setErr]
@[simp] theorem raiseIllegal_minMicros (c : IllegalCause) : (s.raiseIllegal c).minMicros = s.minMicros := by cases c <;> simp [State.raiseIllegal, State.record, State.setErr]
@[simp] theorem raiseIllegal_lastShow (c : IllegalCause) : (s.raiseIllegal c).lastShow = s.lastShow := by cases c <;> simp [State.raiseIllegal, State.record, State.setErr]
@[simp] theorem raiseIllegal_nFrames (c : IllegalCause) : (s.raiseIllegal c).nFrames = s.nFrames := by cases c <;> simp [State.raiseIllegal, State.record, State.setErr]
@[simp] theorem raiseIllegal_fps (c : IllegalCause) : (s.raiseIllegal c).fps = s.fps := by cases c <;> simp [State.raiseIllegal, State.record, State.setErr]
@[simp] theorem raiseIllegal_frameCnt (c : IllegalCause) : (s.raiseIllegal c).frameCnt = s.frameCnt := by cases c <;> simp [State.raiseIllegal, State.record, State.setErr]
@[simp] theorem raiseIllegal_lastMark (c : IllegalCause) : (s.raiseIllegal c).lastMark = s.lastMark := by cases c <;> simp [State.raiseIllegal, State.record, State.setErr]
@[simp] theorem raiseIllegal_nCtrl (c : IllegalCause) : (s.raiseIllegal c).nCtrl = s.nCtrl := by cases c <;> simp [State.raiseIllegal, State.record, State.setErr]
@[simp] theorem raiseIllegal_pwrEn (c : IllegalCause) : (s.raiseIllegal c).pwrEn = s.pwrEn := by cases c <;> simp [State.raiseIllegal, State.record, State.setErr]
@[simp] theorem raiseIllegal_pwrData (c : IllegalCause) : (s.raiseIllegal c).pwrData = s.pwrData := by cases c <;> simp [State.raiseIllegal, State.record, State.setErr]
@[simp] theorem raiseIllegal_tok (c : IllegalCause) : (s.raiseIllegal c).tok = s.tok := by cases c <;> simp [State.raiseIllegal, State.record, State.setErr]
@[simp] theorem raiseIllegal_enl (c : IllegalCause) : (s.raiseIllegal c).enl = s.enl := by cases c <;> simp [State.raiseIllegal, State.record, State.setErr]
@[simp] theorem raiseIllegal_seq (c : IllegalCause) : (s.raiseIllegal c).seq = s.seq := by cases c <;> simp [State.raiseIllegal, State.record, State.setErr]
@[simp] theorem raiseIllegal_params (c : IllegalCause) : (s.raiseIllegal c).params = s.params := by cases c <;> simp [State.raiseIllegal, State.record, State.setErr]
@[simp] theorem raiseIllegal_cmds (c : IllegalCause) : (s.raiseIllegal c).cmds = s.cmds := by cases c <;> simp [State.raiseIllegal, State.record, State.setErr]
@[simp] theorem raiseIllegal_pc (c : IllegalCause) : (s.raiseIllegal c).pc = s.pc := by cases c <;> simp [State.raiseIllegal, State.record, State.setErr]
@[simp] theorem raiseIllegal_answers (c : IllegalCause) : (s.raiseIllegal c).answers = s.answers := by cases c <;> simp [State.raiseIllegal, State.record, State.setErr]
@[simp] theorem raiseIllegal_drawIx (c : IllegalCause) : (s.raiseIllegal c).drawIx = s.drawIx := by cases c <;> simp [State.raiseIllegal, State.record, State.setErr]
@[simp] theorem raiseIllegal_resetIn (c : IllegalCause) : (s.raiseIllegal c).resetIn = s.resetIn := by cases c <;> simp [State.raiseIllegal, State.record, State.setErr]
@[simp] theorem raiseIllegal_log (c : IllegalCause) : (s.raiseIllegal c).log = s.log ++ [.respond c.status 0] := by cases c <;> simp [State.raiseIllegal, State.record, State.setErr]

/-! ### `dropAnswer` -/

@[simp] theorem dropAnswer_g : s.dropAnswer.g = s.g := by unfold State.dropAnswer; split <;> simp_all
@[simp] theorem dropAnswer_errIll : s.dropAnswer.errIll = s.errIll := by unfold State.dropAnswer; split <;> simp_all
@[simp] theorem dropAnswer_errCsre : s.dropAnswer.errCsre = s.errCsre := by unfold State.dropAnswer; split <;> simp_all
@[simp] theorem dropAnswer_gscale : s.dropAnswer.gscale = s.gscale := by unfold State.dropAnswer; split <;> simp_all
@[simp] theorem dropAnswer_minMicros : s.dropAnswer.minMicros = s.minMicros := by unfold State.dropAnswer; split <;> simp_all
@[simp] theorem dropAnswer_lastShow : s.dropAnswer.lastShow = s.lastShow := by unfold State.dropAnswer; split <;> simp_all
@[simp] theorem dropAnswer_nFrames : s.dropAnswer.nFrames = s.nFrames := by unfold State.dropAnswer; split <;> simp_all
@[simp] theorem dropAnswer_fps : s.dropAnswer.fps = s.fps := by unfold State.dropAnswer; split <;> simp_all
@[simp] theorem dropAnswer_frameCnt : s.dropAnswer.frameCnt = s.frameCnt := by unfold State.dropAnswer; split <;> simp_all
@[simp] theorem dropAnswer_lastMark : s.dropAnswer.lastMark = s.lastMark := by unfold State.dropAnswer; split <;> simp_all
@[simp] theorem dropAnswer_nCtrl : s.dropAnswer.nCtrl = s.nCtrl := by unfold State.dropAnswer; split <;> simp_all
@[simp] theorem dropAnswer_pwrEn : s.dropAnswer.pwrEn = s.pwrEn := by unfold State.dropAnswer; split <;> simp_all
@[simp] theorem dropAnswer_pwrData : s.dropAnswer.pwrData = s.pwrData := by unfold State.dropAnswer; split <;> simp_all
@[simp] theorem dropAnswer_tok : s.dropAnswer.tok = s.tok := by unfold State.dropAnswer; split <;> simp_all
@[simp] theorem dropAnswer_enl : s.dropAnswer.enl = s.enl := by unfold State.dropAnswer; split <;> simp_all
@[simp] theorem dropAnswer_seq : s.dropAnswer.seq = s.seq := by unfold State.dropAnswer; split <;> simp_all
@[simp] theorem dropAnswer_params : s.dropAnswer.params = s.params := by unfold State.dropAnswer; split <;> simp_all
@[simp] theorem dropAnswer_cmds : s.dropAnswer.cmds = s.cmds := by unfold State.dropAnswer; split <;> simp_all
@[simp] theorem dropAnswer_pc : s.dropAnswer.pc = s.pc := by unfold State.dropAnswer; split <;> simp_all
@[simp] theorem dropAnswer_answers : s.dropAnswer.answers = s.answers.tail := by unfold State.dropAnswer; split <;> simp_all
@[simp] theorem dropAnswer_resetIn : s.dropAnswer.resetIn = s.resetIn := by unfold State.dropAnswer; split <;> simp_all
@[simp] theorem dropAnswer_log : s.dropAnswer.log = s.log := by unfold State.dropAnswer; split <;> simp_all

end Sys2Proof.Machine
end

