-- ==== Sys2Proof/Laws/Ops.lean ====
section
/-! SUPPORT. What each shared operation does, once. -/

namespace Sys2Proof.Machine

/-! ### Registers -/

/-- All that a register write does to the registers. -/
@[simp] theorem reg_setReg (s : State) (r q : Reg) (v : Word) :
    (s.setReg r v).reg q = if q = r then v else s.reg q := by
  simp [State.reg, State.setReg, Vector.getElem_set, Fin.ext_iff, eq_comm]

/-- Registers are read from `g` alone. -/
theorem reg_congr {s t : State} (h : t.g = s.g) (r : Reg) : t.reg r = s.reg r := by
  simp [State.reg, h]

@[simp] theorem reg_record (s : State) (e : IoEvent) (r : Reg) : (s.record e).reg r = s.reg r := rfl

@[simp] theorem reg_respond (s : State) (d : Word) (r : Reg) : (s.respond d).reg r = s.reg r := rfl

@[simp] theorem reg_writeResult (s : State) (r q : Reg) (v : Word) :
    (s.writeResult r v).reg q = if q = r then v else s.reg q := by
  simp [State.writeResult]

@[simp] theorem reg_goto (s : State) (q : SeqState) (r : Reg) : (s.goto q).reg r = s.reg r := rfl

@[simp] theorem reg_raiseIllegal (s : State) (c : IllegalCause) (r : Reg) :
    (s.raiseIllegal c).reg r = s.reg r := by
  cases c <;> rfl

@[simp] theorem reg_dropAnswer (s : State) (r : Reg) : s.dropAnswer.reg r = s.reg r :=
  reg_congr (by simp) r

@[simp] theorem reg_tick (s : State) (r : Reg) : s.tick.reg r = s.reg r := rfl

/-- All that a register result does: registers and the observation, nothing else. -/
theorem writeResult_eq (s : State) (rd : Reg) (v : Word) :
    s.writeResult rd v = { s with g := s.g.set rd v, log := s.log ++ [.respond 0 v] } := rfl

/-! ### Operands as numbers -/

theorem u8_eq (s : State) (r : Reg) : s.u8 r = (s.reg r).toNat % 256 := by
  simp [State.u8]

theorem u16_eq (s : State) (r : Reg) : s.u16 r = (s.reg r).toNat % 65536 := by
  simp [State.u16]

theorem u8_lt (s : State) (r : Reg) : s.u8 r < 256 := by
  rw [u8_eq]; omega

theorem u16_lt (s : State) (r : Reg) : s.u16 r < 65536 := by
  rw [u16_eq]; omega

theorem s8_range (s : State) (r : Reg) : -128 ≤ s.s8 r ∧ s.s8 r ≤ 127 := by
  have h := BitVec.le_toInt ((s.reg r).setWidth 8)
  have h' := BitVec.toInt_lt (x := (s.reg r).setWidth 8)
  simp only [State.s8]
  omega

theorem s16_range (s : State) (r : Reg) : -32768 ≤ s.s16 r ∧ s.s16 r ≤ 32767 := by
  have h := BitVec.le_toInt ((s.reg r).setWidth 16)
  have h' := BitVec.toInt_lt (x := (s.reg r).setWidth 16)
  simp only [State.s16]
  omega

/-! ### The sequencer's arrays -/

/-- `ENL[i] <- b` within the array. -/
theorem enabled_setEnabled (s : State) (i j : Nat) (b : Bool) (h : i < s.enl.length) :
    (s.setEnabled i b).enabled j = if j = i then b else s.enabled j := by
  by_cases hj : j = i
  · subst hj; simp [State.enabled, h]
  · simp [State.enabled, hj, Ne.symm hj]

/-- `TOK[i] <- t` within the array. -/
theorem token_setToken (s : State) (i j : Nat) (t : Word) (h : i < s.tok.length) :
    (s.setToken i t).token j = if j = i then t else s.token j := by
  by_cases hj : j = i
  · subst hj; simp [State.token, h]
  · simp [State.token, hj, Ne.symm hj]

/-- The arrays keep their size. -/
theorem setEnabled_length (s : State) (i : Nat) (b : Bool) : (s.setEnabled i b).enl.length = s.enl.length := by
  simp

theorem setToken_length (s : State) (i : Nat) (t : Word) : (s.setToken i t).tok.length = s.tok.length := by
  simp

/-! ### Port transactions -/

/-- An answered transaction, the answer one that the environment has ready. -/
theorem transact_ready {s : State} {r : Word} {rest : List (Option Word)} (h : s.answers = some r :: rest)
    (e : Word → IoEvent) (k : Word → State → State) :
    s.transact e k = k r ({ s with answers := rest }.record (e r)) := by
  simp [State.transact, State.nextAnswer, State.dropAnswer, h]

/-- All that a transaction can do: wait with one answer used up, or go on with an answer. -/
theorem transact_cases (s : State) (e : Word → IoEvent) (k : Word → State → State) :
    (s.nextAnswer = none ∧ s.transact e k = s.dropAnswer) ∨
      (∃ r, s.nextAnswer = some r ∧ s.transact e k = k r (s.dropAnswer.record (e r))) := by
  unfold State.transact
  split
  · exact .inl ⟨‹_›, rfl⟩
  · exact .inr ⟨_, ‹_›, rfl⟩

/-- Kind 7 is never sent (20_memory.md R71). -/
theorem number_ctlKind_lt (k : CtlKind) : k.number.toNat < 7 := by
  cases k <;> decide

/-- Event code 0 is never sent (20_memory.md R72). -/
theorem number_evtCode_pos (c : EvtCode) : 0 < c.number.toNat := by
  cases c <;> decide

theorem ctl_ready {s : State} {r : Word} {rest : List (Option Word)} (h : s.answers = some r :: rest)
    (kind : CtlKind) (i : Nat) (a : Word) (b : Byte) (k : Word → State → State) :
    s.ctl kind i a b k =
      k r ({ s with answers := rest }.record (.ctl kind.number (BitVec.ofNat 8 i) a b r)) :=
  transact_ready h _ _

theorem event_ready {s : State} {r : Word} {rest : List (Option Word)} (h : s.answers = some r :: rest)
    (code : EvtCode) (k : State → State) :
    s.event code k = k ({ s with answers := rest }.record (.evt code.number)) :=
  transact_ready h _ _

/-- What using an answer changes: only the environment's side. -/
theorem dropAnswer_eq (s : State) :
    s.dropAnswer = { s with answers := s.dropAnswer.answers, drawIx := s.dropAnswer.drawIx } := by
  unfold State.dropAnswer
  split <;> rfl

/-- A property that using an answer and observing an event keep, and that the continuation keeps, is kept by
the transaction. -/
theorem transact_keeps {P : State → Prop} {s : State} {e : Word → IoEvent} {k : Word → State → State}
    (hdrop : P s.dropAnswer) (hk : ∀ r, P (k r (s.dropAnswer.record (e r)))) : P (s.transact e k) := by
  obtain ⟨-, h⟩ | ⟨r, -, h⟩ := transact_cases s e k
  · rw [h]; exact hdrop
  · rw [h]; exact hk r

/-! ### Control registers -/

/-- A host write of a control register answers a state exactly for the six writable ones. -/
theorem writeCsr_cases {s t : State} {v : Word} {c : Csr} (h : s.writeCsr v c = some t) :
    (c = .gscale ∧ t = { s with gscale := v.setWidth 8 }) ∨ (c = .minmicros ∧ t = { s with minMicros := v }) ∨
      (c = .nframes ∧ t = { s with nFrames := v.setWidth 16 }) ∨
      (c = .nctrl ∧ t = { s with nCtrl := v.setWidth 16 }) ∨
      (c = .pwrctl ∧ t = { s with pwrEn := v.getLsbD 0 }) ∨ (c = .pwrdata ∧ t = { s with pwrData := v }) := by
  cases c <;> simp_all [State.writeCsr]

end Sys2Proof.Machine
end

