-- ==== Sys2Proof/Laws/PerInstr.lean ====
section
/-! SUPPORT. Statements made once per command. Family `EncodingRow`: the word of a command meets mask and match
of its row of the opcode map (30_encoding.md R86). -/

namespace Sys2Proof.Laws.EncodingRow

-- The lemmas are elaborated one after another, to keep the number of threads small.
set_option Elab.async false

/-- The command's word, masked as its row says, is the row's match. -/
def Statement (i : Instr) : Prop := encode i &&& i.op.mask = i.op.pattern

theorem code_masked (o : Op) : BitVec.ofNat 8 o.code &&& 0xFF#8 = BitVec.ofNat 8 o.code := by
  cases o <;> rfl

theorem formatR_and (o : Op) (rd ra rb rc re : Reg) (me mc mb ma md : BitVec 4) :
    formatR o rd ra rb rc re &&& (0xF#4 ++ me ++ mc ++ mb ++ ma ++ md ++ 0xFF#8)
      = 0#4 ++ (regField re &&& me) ++ (regField rc &&& mc) ++ (regField rb &&& mb)
        ++ (regField ra &&& ma) ++ (regField rd &&& md) ++ BitVec.ofNat 8 o.code := by
  unfold formatR
  refine BitVec.and_append.trans ?_
  rw [code_masked]
  simp only [BitVec.and_append, BitVec.zero_and]

theorem formatI_and (o : Op) (rd : Reg) (imm16 : Half) :
    formatI o rd imm16 &&& (0xF#4 ++ 0#16 ++ 0#4 ++ 0xFF#8) = 0#4 ++ 0#16 ++ 0#4 ++ BitVec.ofNat 8 o.code := by
  unfold formatI
  refine BitVec.and_append.trans ?_
  rw [code_masked]
  simp only [BitVec.and_append, BitVec.zero_and, BitVec.and_zero]

theorem formatC_and (o : Op) (rd ra : Reg) (csr : Byte) (ma md : BitVec 4) :
    formatC o rd ra csr &&& (0xFF#8 ++ 0#8 ++ ma ++ md ++ 0xFF#8)
      = 0#8 ++ 0#8 ++ (regField ra &&& ma) ++ (regField rd &&& md) ++ BitVec.ofNat 8 o.code := by
  unfold formatC
  refine BitVec.and_append.trans ?_
  rw [code_masked]
  simp only [BitVec.and_append, BitVec.zero_and, BitVec.and_zero]

theorem nop : Statement (.nop) := by
  simpa [Statement, Instr.op, regField, encode, Op.mask, Op.pattern, Op.code] using formatR_and .nop 0 0 0 0 0 0xF 0xF 0xF 0xF 0xF
theorem ldi (rd : Reg) (imm16 : Half) : Statement (.ldi rd imm16) := by
  simpa [Statement, Instr.op, regField, encode, Op.mask, Op.pattern, Op.code] using formatI_and .ldi rd imm16
theorem ldih (rd : Reg) (imm16 : Half) : Statement (.ldih rd imm16) := by
  simpa [Statement, Instr.op, regField, encode, Op.mask, Op.pattern, Op.code] using formatI_and .ldih rd imm16
theorem mov (rd : Reg) (ra : Reg) : Statement (.mov rd ra) := by
  simpa [Statement, Instr.op, regField, encode, Op.mask, Op.pattern, Op.code] using formatR_and .mov rd ra 0 0 0 0xF 0xF 0xF 0 0
theorem csrr (rd : Reg) (csr : Byte) : Statement (.csrr rd csr) := by
  simpa [Statement, Instr.op, regField, encode, Op.mask, Op.pattern, Op.code] using formatC_and .csrr rd 0 csr 0xF 0
theorem csrw (csr : Byte) (ra : Reg) : Statement (.csrw csr ra) := by
  simpa [Statement, Instr.op, regField, encode, Op.mask, Op.pattern, Op.code] using formatC_and .csrw 0 ra csr 0 0xF
theorem scale8 (rd : Reg) (ra : Reg) (rb : Reg) : Statement (.scale8 rd ra rb) := by
  simpa [Statement, Instr.op, regField, encode, Op.mask, Op.pattern, Op.code] using formatR_and .scale8 rd ra rb 0 0 0xF 0xF 0 0 0
theorem scale8v (rd : Reg) (ra : Reg) (rb : Reg) : Statement (.scale8v rd ra rb) := by
  simpa [Statement, Instr.op, regField, encode, Op.mask, Op.pattern, Op.code] using formatR_and .scale8v rd ra rb 0 0 0xF 0xF 0 0 0
theorem scale16 (rd : Reg) (ra : Reg) (rb : Reg) : Statement (.scale16 rd ra rb) := by
  simpa [Statement, Instr.op, regField, encode, Op.mask, Op.pattern, Op.code] using formatR_and .scale16 rd ra rb 0 0 0xF 0xF 0 0 0
theorem qadd8 (rd : Reg) (ra : Reg) (rb : Reg) : Statement (.qadd8 rd ra rb) := by
  simpa [Statement, Instr.op, regField, encode, Op.mask, Op.pattern, Op.code] using formatR_and .qadd8 rd ra rb 0 0 0xF 0xF 0 0 0
theorem avg7 (rd : Reg) (ra : Reg) (rb : Reg) : Statement (.avg7 rd ra rb) := by
  simpa [Statement, Instr.op, regField, encode, Op.mask, Op.pattern, Op.code] using formatR_and .avg7 rd ra rb 0 0 0xF 0xF 0 0 0
theorem avg15 (rd : Reg) (ra : Reg) (rb : Reg) : Statement (.avg15 rd ra rb) := by
  simpa [Statement, Instr.op, regField, encode, Op.mask, Op.pattern, Op.code] using formatR_and .avg15 rd ra rb 0 0 0xF 0xF 0 0 0
theorem lerp7 (rd : Reg) (ra : Reg) (rb : Reg) (rc : Reg) : Statement (.lerp7 rd ra rb rc) := by
  simpa [Statement, Instr.op, regField, encode, Op.mask, Op.pattern, Op.code] using formatR_and .lerp7 rd ra rb rc 0 0xF 0 0 0 0
theorem lerp15 (rd : Reg) (ra : Reg) (rb : Reg) (rc : Reg) : Statement (.lerp15 rd ra rb rc) := by
  simpa [Statement, Instr.op, regField, encode, Op.mask, Op.pattern, Op.code] using formatR_and .lerp15 rd ra rb rc 0 0xF 0 0 0 0
theorem ease8 (rd : Reg) (ra : Reg) : Statement (.ease8 rd ra) := by
  simpa [Statement, Instr.op, regField, encode, Op.mask, Op.pattern, Op.code] using formatR_and .ease8 rd ra 0 0 0 0xF 0xF 0xF 0 0
theorem ease16 (rd : Reg) (ra : Reg) : Statement (.ease16 rd ra) := by
  simpa [Statement, Instr.op, regField, encode, Op.mask, Op.pattern, Op.code] using formatR_and .ease16 rd ra 0 0 0 0xF 0xF 0xF 0 0
theorem plut (rd : Reg) (ra : Reg) : Statement (.plut rd ra) := by
  simpa [Statement, Instr.op, regField, encode, Op.mask, Op.pattern, Op.code] using formatR_and .plut rd ra 0 0 0 0xF 0xF 0xF 0 0
theorem nz16r1 (rd : Reg) (ra : Reg) : Statement (.nz16r1 rd ra) := by
  simpa [Statement, Instr.op, regField, encode, Op.mask, Op.pattern, Op.code] using formatR_and .nz16r1 rd ra 0 0 0 0xF 0xF 0xF 0 0
theorem nz16r2 (rd : Reg) (ra : Reg) (rb : Reg) : Statement (.nz16r2 rd ra rb) := by
  simpa [Statement, Instr.op, regField, encode, Op.mask, Op.pattern, Op.code] using formatR_and .nz16r2 rd ra rb 0 0 0xF 0xF 0 0 0
theorem nz16r3 (rd : Reg) (ra : Reg) (rb : Reg) (rc : Reg) : Statement (.nz16r3 rd ra rb rc) := by
  simpa [Statement, Instr.op, regField, encode, Op.mask, Op.pattern, Op.code] using formatR_and .nz16r3 rd ra rb rc 0 0xF 0 0 0 0
theorem nz16r4 (rd : Reg) (ra : Reg) (rb : Reg) (rc : Reg) (re : Reg) : Statement (.nz16r4 rd ra rb rc re) := by
  simpa [Statement, Instr.op, regField, encode, Op.mask, Op.pattern, Op.code] using formatR_and .nz16r4 rd ra rb rc re 0 0 0 0 0
theorem nz16u1 (rd : Reg) (ra : Reg) : Statement (.nz16u1 rd ra) := by
  simpa [Statement, Instr.op, regField, encode, Op.mask, Op.pattern, Op.code] using formatR_and .nz16u1 rd ra 0 0 0 0xF 0xF 0xF 0 0
theorem nz16u2 (rd : Reg) (ra : Reg) (rb : Reg) : Statement (.nz16u2 rd ra rb) := by
  simpa [Statement, Instr.op, regField, encode, Op.mask, Op.pattern, Op.code] using formatR_and .nz16u2 rd ra rb 0 0 0xF 0xF 0 0 0
theorem nz16u3 (rd : Reg) (ra : Reg) (rb : Reg) (rc : Reg) : Statement (.nz16u3 rd ra rb rc) := by
  simpa [Statement, Instr.op, regField, encode, Op.mask, Op.pattern, Op.code] using formatR_and .nz16u3 rd ra rb rc 0 0xF 0 0 0 0
theorem nz16u4 (rd : Reg) (ra : Reg) (rb : Reg) (rc : Reg) (re : Reg) : Statement (.nz16u4 rd ra rb rc re) := by
  simpa [Statement, Instr.op, regField, encode, Op.mask, Op.pattern, Op.code] using formatR_and .nz16u4 rd ra rb rc re 0 0 0 0 0
theorem nz8r1 (rd : Reg) (ra : Reg) : Statement (.nz8r1 rd ra) := by
  simpa [Statement, Instr.op, regField, encode, Op.mask, Op.pattern, Op.code] using formatR_and .nz8r1 rd ra 0 0 0 0xF 0xF 0xF 0 0
theorem nz8r2 (rd : Reg) (ra : Reg) (rb : Reg) : Statement (.nz8r2 rd ra rb) := by
  simpa [Statement, Instr.op, regField, encode, Op.mask, Op.pattern, Op.code] using formatR_and .nz8r2 rd ra rb 0 0 0xF 0xF 0 0 0
theorem nz8r3 (rd : Reg) (ra : Reg) (rb : Reg) (rc : Reg) : Statement (.nz8r3 rd ra rb rc) := by
  simpa [Statement, Instr.op, regField, encode, Op.mask, Op.pattern, Op.code] using formatR_and .nz8r3 rd ra rb rc 0 0xF 0 0 0 0
theorem nz8u1 (rd : Reg) (ra : Reg) : Statement (.nz8u1 rd ra) := by
  simpa [Statement, Instr.op, regField, encode, Op.mask, Op.pattern, Op.code] using formatR_and .nz8u1 rd ra 0 0 0 0xF 0xF 0xF 0 0
theorem nz8u2 (rd : Reg) (ra : Reg) (rb : Reg) : Statement (.nz8u2 rd ra rb) := by
  simpa [Statement, Instr.op, regField, encode, Op.mask, Op.pattern, Op.code] using formatR_and .nz8u2 rd ra rb 0 0 0xF 0xF 0 0 0
theorem nz8u3 (rd : Reg) (ra : Reg) (rb : Reg) (rc : Reg) : Statement (.nz8u3 rd ra rb rc) := by
  simpa [Statement, Instr.op, regField, encode, Op.mask, Op.pattern, Op.code] using formatR_and .nz8u3 rd ra rb rc 0 0xF 0 0 0 0
theorem nz8h1 (rd : Reg) (ra : Reg) : Statement (.nz8h1 rd ra) := by
  simpa [Statement, Instr.op, regField, encode, Op.mask, Op.pattern, Op.code] using formatR_and .nz8h1 rd ra 0 0 0 0xF 0xF 0xF 0 0
theorem nz8h2 (rd : Reg) (ra : Reg) (rb : Reg) : Statement (.nz8h2 rd ra rb) := by
  simpa [Statement, Instr.op, regField, encode, Op.mask, Op.pattern, Op.code] using formatR_and .nz8h2 rd ra rb 0 0 0xF 0xF 0 0 0
theorem nz8h3 (rd : Reg) (ra : Reg) (rb : Reg) (rc : Reg) : Statement (.nz8h3 rd ra rb rc) := by
  simpa [Statement, Instr.op, regField, encode, Op.mask, Op.pattern, Op.code] using formatR_and .nz8h3 rd ra rb rc 0 0xF 0 0 0 0
theorem showS (ra : Reg) : Statement (.showS ra) := by
  simpa [Statement, Instr.op, regField, encode, Op.mask, Op.pattern, Op.code] using formatR_and .showS 0 ra 0 0 0 0xF 0xF 0xF 0 0xF
theorem showG : Statement (.showG) := by
  simpa [Statement, Instr.op, regField, encode, Op.mask, Op.pattern, Op.code] using formatR_and .showG 0 0 0 0 0 0xF 0xF 0xF 0xF 0xF
theorem showC (ra : Reg) (rb : Reg) : Statement (.showC ra rb) := by
  simpa [Statement, Instr.op, regField, encode, Op.mask, Op.pattern, Op.code] using formatR_and .showC 0 ra rb 0 0 0xF 0xF 0 0 0xF
theorem showCG (ra : Reg) : Statement (.showCG ra) := by
  simpa [Statement, Instr.op, regField, encode, Op.mask, Op.pattern, Op.code] using formatR_and .showCG 0 ra 0 0 0 0xF 0xF 0xF 0 0xF
theorem setrate (ra : Reg) : Statement (.setrate ra) := by
  simpa [Statement, Instr.op, regField, encode, Op.mask, Op.pattern, Op.code] using formatR_and .setrate 0 ra 0 0 0 0xF 0xF 0xF 0 0xF
theorem setratec (ra : Reg) : Statement (.setratec ra) := by
  simpa [Statement, Instr.op, regField, encode, Op.mask, Op.pattern, Op.code] using formatR_and .setratec 0 ra 0 0 0 0xF 0xF 0xF 0 0xF
theorem delay (ra : Reg) : Statement (.delay ra) := by
  simpa [Statement, Instr.op, regField, encode, Op.mask, Op.pattern, Op.code] using formatR_and .delay 0 ra 0 0 0 0xF 0xF 0xF 0 0xF

/-- Every command's word is in its row. -/
theorem all (i : Instr) : Statement i := by
  cases i
  case nop => exact nop
  case ldi => exact ldi _ _
  case ldih => exact ldih _ _
  case mov => exact mov _ _
  case csrr => exact csrr _ _
  case csrw => exact csrw _ _
  case scale8 => exact scale8 _ _ _
  case scale8v => exact scale8v _ _ _
  case scale16 => exact scale16 _ _ _
  case qadd8 => exact qadd8 _ _ _
  case avg7 => exact avg7 _ _ _
  case avg15 => exact avg15 _ _ _
  case lerp7 => exact lerp7 _ _ _ _
  case lerp15 => exact lerp15 _ _ _ _
  case ease8 => exact ease8 _ _
  case ease16 => exact ease16 _ _
  case plut => exact plut _ _
  case nz16r1 => exact nz16r1 _ _
  case nz16r2 => exact nz16r2 _ _ _
  case nz16r3 => exact nz16r3 _ _ _ _
  case nz16r4 => exact nz16r4 _ _ _ _ _
  case nz16u1 => exact nz16u1 _ _
  case nz16u2 => exact nz16u2 _ _ _
  case nz16u3 => exact nz16u3 _ _ _ _
  case nz16u4 => exact nz16u4 _ _ _ _ _
  case nz8r1 => exact nz8r1 _ _
  case nz8r2 => exact nz8r2 _ _ _
  case nz8r3 => exact nz8r3 _ _ _ _
  case nz8u1 => exact nz8u1 _ _
  case nz8u2 => exact nz8u2 _ _ _
  case nz8u3 => exact nz8u3 _ _ _ _
  case nz8h1 => exact nz8h1 _ _
  case nz8h2 => exact nz8h2 _ _ _
  case nz8h3 => exact nz8h3 _ _ _ _
  case showS => exact showS _
  case showG => exact showG
  case showC => exact showC _ _
  case showCG => exact showCG _
  case setrate => exact setrate _
  case setratec => exact setratec _
  case delay => exact delay _

end Sys2Proof.Laws.EncodingRow
end

