-- ==== Sys2Proof/Laws/Step.lean ====
section
/-! SUPPORT. What a step can do, once; running several steps; commands that end in a register result. -/

namespace Sys2Proof.Machine

/-- A command that ends in a register result completes in the sense of `Completes`. -/
theorem completes_of_writeResult {i : Instr} {s : State} {rd : Reg} {v w : Word}
    (h : exec i s = .next (s.writeResult rd v)) (hv : v = w) : Completes i s rd w := by
  subst hv
  exact ⟨_, h, fun r => reg_writeResult s rd r v, rfl⟩

/-- The registers after a command that completes. -/
theorem Completes.reg {i : Instr} {s t : State} {rd : Reg} {v : Word} (h : Completes i s rd v)
    (ht : exec i s = .next t) : t.reg rd = v := by
  obtain ⟨t', ht', hr, -⟩ := h
  cases ht.symm.trans ht'
  simpa using hr rd

/-- All that a step can do: reset, a step of a running sequencer command, nothing for want of a command word, a
command, or the refusal of a word. -/
theorem step_cases {s t : State} (h : step s = .next t) :
    (s.resetNow = true ∧ t = s.tick.applyReset) ∨
      (s.resetNow = false ∧ s.seq ≠ .idle ∧ t = seqStep s.tick) ∨
      (s.resetNow = false ∧ s.seq = .idle ∧ s.cmds = [] ∧ t = s.tick) ∨
      (∃ w rest i, s.resetNow = false ∧ s.seq = .idle ∧ s.cmds = w :: rest ∧ decodeWord w = .ok i ∧
        exec i { s.tick with cmds := rest, pc := s.pc + 1 } = .next t) ∨
      (∃ w rest e, s.resetNow = false ∧ s.seq = .idle ∧ s.cmds = w :: rest ∧ decodeWord w = .error e ∧
        t = State.raiseIllegal { s.tick with cmds := rest, pc := s.pc + 1 } .command) := by
  unfold step at h
  split at h
  · cases h; exact .inl ⟨‹_›, rfl⟩
  rename_i hr
  have hr : s.resetNow = false := by simpa using hr
  split at h
  · cases h; exact .inr (.inl ⟨hr, ‹_›, rfl⟩)
  rename_i hq
  have hq : s.seq = .idle := by simpa using hq
  cases hc : s.cmds with
  | nil =>
    simp only [State.takeCommand, tick_cmds, hc] at h
    cases h
    exact .inr (.inr (.inl ⟨hr, hq, rfl, rfl⟩))
  | cons w rest =>
    simp only [State.takeCommand, tick_cmds, hc] at h
    cases hd : decodeWord w with
    | ok i =>
      simp only [hd] at h
      exact .inr (.inr (.inr (.inl ⟨w, rest, i, hr, hq, rfl, hd, h⟩)))
    | error e =>
      simp only [hd] at h
      cases h
      exact .inr (.inr (.inr (.inr ⟨w, rest, e, hr, hq, rfl, hd, rfl⟩)))

/-- A step of a running sequencer command when no reset arrives any more. -/
theorem step_running {s : State} (hq : s.seq ≠ .idle) (hr : s.resetIn = []) : step s = .next (seqStep s) := by
  have ht : s.tick = s := by cases s; simp_all [State.tick]
  simp [step, State.resetNow, hr, hq, ht]

/-- Running on from a step. -/
theorem run_succ {s t : State} (h : step s = .next t) (k : Nat) :
    Host.Core.run core (k + 1) s = Host.Core.run core k t := by
  have h' : core.step s = .next t := h
  simp only [Host.Core.run, h']

/-- Running one step of a sequencer command that runs. -/
theorem run_running {s : State} (hq : s.seq ≠ .idle) (hr : s.resetIn = []) (k : Nat) :
    Host.Core.run core (k + 1) s = Host.Core.run core k (seqStep s) :=
  run_succ (step_running hq hr) k

/-- Runs compose. -/
theorem run_trans {s t u : State} {j k : Nat} (h : Host.Core.run core j s = .next t)
    (h' : Host.Core.run core k t = .next u) : Host.Core.run core (j + k) s = .next u := by
  induction j generalizing s with
  | zero => cases h; simpa using h'
  | succ j ih =>
    cases hs : core.step s with
    | next s' =>
      simp only [Host.Core.run, hs] at h
      rw [Nat.add_right_comm, run_succ hs]
      exact ih h
    | fault r => simp only [Host.Core.run, hs] at h; cases h
    | refused r => simp only [Host.Core.run, hs] at h; cases h

end Sys2Proof.Machine
end

