-- ==== Sys2Proof/Tests/Slice0.lean ====
section
/-! SUPPORT. The model's own tests. Expected values are the spec's: 95_test_vectors.md and the worked examples of the
rules named. Then one witness for every statement that has hypotheses. -/

open Sys2Proof Sys2Proof.Machine

namespace Sys2Proof.Tests

-- One declaration after the other: many small evaluations at once take many threads.
set_option Elab.async false

/-! ### Well-formedness: a term for each check, which the check refuses -/

/-- Exchange two entries of a table. -/
def swapped (t : List Byte) (i j : Nat) : List Byte := (t.set i (t.getD j 0)).set j (t.getD i 0)

/-- `PERM_CLASSIC` as a list of 257 bytes. -/
def classic : List Byte := (List.range 257).map Memory.unlisted

/-- Another legal `PERM`: entries 0 and 1 exchanged, entry 256 following entry 0. -/
def exchanged : Memory := Memory.ofTable ((swapped classic 0 1).set 256 160)

theorem test_wf_standard : Params.standard.wellFormed = true := by decide +kernel

theorem test_wf_other_perm : ({ Params.standard with perm := exchanged } : Params).wellFormed = true := by
  decide +kernel

theorem test_wf_refuses_no_controllers :
    ({ Params.standard with maxControllers := 0 } : Params).wellFormed = false := by
  decide

theorem test_wf_refuses_257_controllers :
    ({ Params.standard with maxControllers := 257 } : Params).wellFormed = false := by
  decide

/-- Entry 1 given the value of entry 2: a byte value twice. -/
theorem test_wf_refuses_a_repeated_entry :
    ({ Params.standard with perm := [(1, 137)] } : Params).wellFormed = false := by
  decide +kernel

/-- Entry 256 not equal to entry 0. -/
theorem test_wf_refuses_another_last_entry :
    ({ Params.standard with perm := [(256, 160)] } : Params).wellFormed = false := by
  decide +kernel

/-- A listed cell that equals what its address reads as, an address twice, an address outside the table. -/
theorem test_wf_refuses_other_forms :
    ({ Params.standard with perm := [(0, 151)] } : Params).wellFormed = false ∧
    ({ Params.standard with perm := [(1, 1), (1, 2)] } : Params).wellFormed = false ∧
    ({ Params.standard with perm := [(257, 1)] } : Params).wellFormed = false := by
  decide +kernel

/-! ### Decoding: the spec's own words -/

/-- V-MOVE, V-CSR, R104, R105. -/
theorem test_decode_move :
    decodeWord 0x00000000 = .ok (.nop) ∧
    decodeWord 0x01234101 = .ok (.ldi 1 0x1234) ∧
    decodeWord 0x0FFFF101 = .ok (.ldi 1 0xFFFF) ∧
    decodeWord 0x0ABCD202 = .ok (.ldih 2 0xABCD) ∧
    decodeWord 0x0000F003 = .ok (.mov 0 15) ∧
    decodeWord 0x00140508 = .ok (.csrr 5 0x14) ∧
    decodeWord 0x00FF0108 = .ok (.csrr 1 0xFF) ∧
    decodeWord 0x00103009 = .ok (.csrw 0x10 3) := by
  decide

/-- V-SCALE to V-EASE16. -/
theorem test_decode_alu :
    decodeWord 0x00021410 = .ok (.scale8 4 1 2) ∧
    decodeWord 0x00021411 = .ok (.scale8v 4 1 2) ∧
    decodeWord 0x00021412 = .ok (.scale16 4 1 2) ∧
    decodeWord 0x00021413 = .ok (.qadd8 4 1 2) ∧
    decodeWord 0x00021414 = .ok (.avg7 4 1 2) ∧
    decodeWord 0x00021415 = .ok (.avg15 4 1 2) ∧
    decodeWord 0x00321416 = .ok (.lerp7 4 1 2 3) ∧
    decodeWord 0x00321417 = .ok (.lerp15 4 1 2 3) ∧
    decodeWord 0x00001418 = .ok (.ease8 4 1) ∧
    decodeWord 0x00001419 = .ok (.ease16 4 1) := by
  decide

/-- R230 to R247. -/
theorem test_decode_noise :
    decodeWord 0x00001220 = .ok (.plut 2 1) ∧
    decodeWord 0x00001521 = .ok (.nz16r1 5 1) ∧
    decodeWord 0x00021522 = .ok (.nz16r2 5 1 2) ∧
    decodeWord 0x00321523 = .ok (.nz16r3 5 1 2 3) ∧
    decodeWord 0x04321524 = .ok (.nz16r4 5 1 2 3 4) ∧
    decodeWord 0x00001525 = .ok (.nz16u1 5 1) ∧
    decodeWord 0x00021526 = .ok (.nz16u2 5 1 2) ∧
    decodeWord 0x00321527 = .ok (.nz16u3 5 1 2 3) ∧
    decodeWord 0x04321528 = .ok (.nz16u4 5 1 2 3 4) ∧
    decodeWord 0x00001531 = .ok (.nz8r1 5 1) ∧
    decodeWord 0x00021532 = .ok (.nz8r2 5 1 2) ∧
    decodeWord 0x00321533 = .ok (.nz8r3 5 1 2 3) ∧
    decodeWord 0x00001535 = .ok (.nz8u1 5 1) ∧
    decodeWord 0x00021536 = .ok (.nz8u2 5 1 2) ∧
    decodeWord 0x00321537 = .ok (.nz8u3 5 1 2 3) ∧
    decodeWord 0x00001539 = .ok (.nz8h1 5 1) ∧
    decodeWord 0x0002153A = .ok (.nz8h2 5 1 2) ∧
    decodeWord 0x0032153B = .ok (.nz8h3 5 1 2 3) := by
  decide

/-- R159 to R165, V-CLEAR. -/
theorem test_decode_sequencer :
    decodeWord 0x00001040 = .ok (.showS 1) ∧
    decodeWord 0x00000041 = .ok (.showG) ∧
    decodeWord 0x00021042 = .ok (.showC 1 2) ∧
    decodeWord 0x00077042 = .ok (.showC 7 7) ∧
    decodeWord 0x00001043 = .ok (.showCG 1) ∧
    decodeWord 0x00001044 = .ok (.setrate 1) ∧
    decodeWord 0x00001045 = .ok (.setratec 1) ∧
    decodeWord 0x00001046 = .ok (.delay 1) := by
  decide

/-- The rows of 30_encoding.md R86 that a word matches. -/
def matches? (w : Word) : Bool := match decodeWord w with
  | .ok _ => true
  | .error _ => false

/-- V-ILLEGAL: words that match no row. -/
theorem test_decode_illegal :
    [0xFFFFFFFF, 0x00000100, 0x10000000, 0x10000101, 0x00011203, 0x00121310, 0x01321416, 0x0000001A,
      0x0000001B, 0x00000029, 0x0000002C, 0x00000030, 0x00000034, 0x00000038, 0x0000003C, 0x00000047,
      0x00000141, 0x00010040, 0x00101108, 0x00101109, 0x01100108, 0x00041108].any matches? = false := by
  decide

/-- A word that runs past the end of a byte stream; bytes in stream order, the opcode byte first (R63). -/
theorem test_decode_bytes :
    (match decodeBytes [0x01, 0x41, 0x23, 0x01, 0x00] with
      | .ok (i, rest) => (i, rest) == (.ldi 1 0x1234, [0x00])
      | .error _ => false) = true ∧
    (match decodeBytes [0x01, 0x41, 0x23] with
      | .ok _ => false
      | .error e => e == .truncated) = true ∧
    decodeTableWord 32 0x01234101 = some (.ldi 1 0x1234) := by
  decide

/-! ### One step of one command -/

/-- A block with given parameters and registers `g1`, `g2`, ..., idle. -/
def loaded (p : Params) (regs : List Word) : State :=
  { State.resetOf p with
    g := #v[0, regs.getD 0 0, regs.getD 1 0, regs.getD 2 0, regs.getD 3 0, 0, 0, 0, 0, 0, 0, 0, 0, 0, 0, 0] }

/-- The state after the word `w` is sent to `s`, one step. -/
def sent (s : State) (w : Word) : State := match step { s with cmds := [w] } with
  | .next t => t
  | _ => s

/-- The word, sent with `regs` in `g1`, `g2`, ..., writes `v` to `rd` and answers `(0, v)`. -/
def gives (p : Params) (regs : List Word) (w : Word) (rd : Reg) (v : Word) : Bool :=
  let t := sent (loaded p regs) w
  t.log == [.respond 0 v] && t.reg rd == v && t.seq == .idle

/-- The word is answered `(status, 0)` and only the `ERR` bits become `(ill, csre)`. -/
def refuses (w : Word) (status : Byte) (ill csre : Bool) : Bool :=
  let s := loaded Params.standard [5]
  sent s w == { s with errIll := ill, errCsre := csre, pc := 1, log := [.respond status 0] }

/-- V-MOVE 1. -/
theorem test_nop : sent State.reset 0 = { State.reset with pc := 1, log := [.respond 0 0] } := by
  decide

/-- V-MOVE 2, 4. -/
theorem test_ldi :
    gives Params.standard [] 0x01234101 1 0x00001234 = true ∧
    gives Params.standard [0xFFFFFFFF] 0x0FFFF101 1 0x0000FFFF = true := by
  decide

/-- V-MOVE 3, 5. -/
theorem test_ldih :
    gives Params.standard [0x00001234] 0x00003102 1 0x00031234 = true ∧
    gives Params.standard [0x0000FFFF] 0x0FFFF102 1 0xFFFFFFFF = true := by
  decide

/-- V-MOVE 8, 9. -/
theorem test_mov :
    gives Params.standard [0x00000000, 0xABCD0000] 0x00002303 3 0xABCD0000 = true ∧
    gives Params.standard [0x00000000, 0x00000000, 0xABCD0000] 0x00003303 3 0xABCD0000 = true := by
  decide

/-- V-CSR 1, 4, 5; V-CSR 2 with LEGACY, and with both event parameters. -/
theorem test_csrr :
    gives Params.standard [] 0x00000108 1 0x464C0700 = true ∧
    gives Params.standard [] 0x00100108 1 0x000000FF = true ∧
    gives Params.standard [] 0x00130108 1 0x00000019 = true ∧
    gives { Params.standard with easeSel := .legacy } [] 0x00010108 1 0x00000001 = true ∧
    gives { Params.standard with manualEvents := true, accurateClock := true } [] 0x00010108 1 0x00000006 = true := by
  decide

/-- V-ILLEGAL: absent numbers of a `CSRR`. -/
theorem test_csrr_refused :
    refuses 0x00040108 2 false true = true ∧ refuses 0x001A0108 2 false true = true ∧
    refuses 0x00FF0108 2 false true = true := by
  decide

/-- V-CSR 7, 8, 9, 11. -/
theorem test_csrw :
    (sent (loaded Params.standard [0, 0x1FF]) 0x00102009).gscale = 0xFF ∧
    (sent (loaded Params.standard [0, 0x00012345]) 0x00132009).nFrames = 0x2345 ∧
    (sent (loaded Params.standard [0, 3]) 0x00182009).pwrEn = true ∧
    (sent (loaded Params.standard [0, 0xDEAD0003]) 0x00192009).pwrData = 0xDEAD0003 := by
  decide

/-- V-ILLEGAL: read-only registers. -/
theorem test_csrw_refused :
    refuses 0x00001009 2 false true = true ∧ refuses 0x00021009 2 false true = true ∧
    refuses 0x00141009 2 false true = true ∧ refuses 0x00151009 2 false true = true := by
  decide

/-- V-ILLEGAL: an unknown opcode, `SHOW` with `rb = 1`, and the decode check first. -/
theorem test_illegal_word :
    refuses 0xFFFFFFFF 1 true false = true ∧ refuses 0x00010040 1 true false = true ∧
    refuses 0x00041108 1 true false = true := by
  decide

/-- V-SCALE; upper bits ignored. -/
theorem test_scale8 :
    gives Params.standard [0xFFFFFFC8, 0x00000180] 0x00021410 4 0x00000064 = true ∧
    gives Params.standard [0x000000FF, 0x000000FF] 0x00021410 4 0x000000FE = true ∧
    gives Params.standard [0x00000001, 0x000000FF] 0x00021410 4 0x00000000 = true := by
  decide

/-- V-SCALE. -/
theorem test_scale8v :
    gives Params.standard [0x000000FF, 0x00000000] 0x00021411 4 0x00000000 = true ∧
    gives Params.standard [0x00000001, 0x00000001] 0x00021411 4 0x00000001 = true ∧
    gives Params.standard [0x000000FF, 0x000000FF] 0x00021411 4 0x000000FF = true ∧
    gives Params.standard [0x00000010, 0x00000010] 0x00021411 4 0x00000002 = true := by
  decide

/-- V-SCALE. -/
theorem test_scale16 :
    gives Params.standard [0x00009C40, 0x00008000] 0x00021412 4 0x00004E20 = true ∧
    gives Params.standard [0x0000FFFF, 0x0000FFFF] 0x00021412 4 0x0000FFFE = true := by
  decide

/-- V-QADD. -/
theorem test_qadd8 :
    gives Params.standard [0x000000FF, 0x000000FF] 0x00021413 4 0x000000FF = true ∧
    gives Params.standard [0x00000064, 0x0000001B] 0x00021413 4 0x0000007F = true := by
  decide

/-- V-AVG. -/
theorem test_avg7 :
    gives Params.standard [0x000000FD, 0x00000000] 0x00021414 4 0xFFFFFFFE = true ∧
    gives Params.standard [0x00000080, 0x0000007F] 0x00021414 4 0xFFFFFFFF = true ∧
    gives Params.standard [0x00000080, 0x00000080] 0x00021414 4 0xFFFFFF80 = true := by
  decide

/-- V-AVG. -/
theorem test_avg15 :
    gives Params.standard [0xFFFFFC18, 0x00000003] 0x00021415 4 0xFFFFFE0D = true ∧
    gives Params.standard [0xFFFFFC18, 0xFFFF8000] 0x00021415 4 0xFFFFBE0C = true := by
  decide

/-- V-LERP. -/
theorem test_lerp7 :
    gives Params.standard [0x00000000, 0xFFFFFFFF, 0x00000080] 0x00321416 4 0x00000000 = true ∧
    gives Params.standard [0x0000007F, 0xFFFFFF80, 0x000000FF] 0x00321416 4 0xFFFFFF81 = true ∧
    gives Params.standard [0xFFFFFF9C, 0x00000064, 0x00000040] 0x00321416 4 0xFFFFFFCE = true := by
  decide

/-- V-LERP. -/
theorem test_lerp15 :
    gives Params.standard [0x000003E8, 0xFFFFFC18, 0x00004000] 0x00321417 4 0x000001F4 = true ∧
    gives Params.standard [0x00000000, 0xFFFFFFFD, 0x00005556] 0x00321417 4 0xFFFFFFFF = true := by
  decide

/-- V-EASE8. -/
theorem test_ease8 :
    gives Params.standard [0x00000017] 0x00001418 4 0x00000004 = true ∧
    gives Params.standard [0x0000007F] 0x00001418 4 0x0000007E = true ∧
    gives Params.standard [0x00000080] 0x00001418 4 0x00000081 = true ∧
    gives Params.standard [0x000000EF] 0x00001418 4 0x000000FD = true := by
  decide

/-- V-EASE16. -/
theorem test_ease16 :
    gives Params.standard [0x00000100] 0x00001419 4 0x00000002 = true ∧
    gives Params.standard [0x00007FFF] 0x00001419 4 0x00007FFE = true ∧
    gives Params.standard [0x00008000] 0x00001419 4 0x00008001 = true ∧
    gives Params.standard [0x0000FF00] 0x00001419 4 0x0000FFFF = true := by
  decide

/-- R230: entries 1 and 256, and the fold (511 is 255). -/
theorem test_plut :
    gives Params.standard [0x00000001] 0x00001220 2 0x000000A0 = true ∧
    gives Params.standard [0x00000100] 0x00001220 2 0x00000097 = true ∧
    gives Params.standard [0x000001FF] 0x00001220 2 0x000000B4 = true := by
  decide

/-- V-N16; the last line LEGACY. -/
theorem test_nz16r1 :
    gives Params.standard [0x00012000] 0x00001521 5 0x00000380 = true ∧
    gives Params.standard [0x12345678] 0x00001521 5 0xFFFFECAA = true ∧
    gives { Params.standard with easeSel := .legacy } [0x00012000] 0x00001521 5 0x000001C0 = true := by
  decide

/-- V-N16; the last line LEGACY. -/
theorem test_nz16r2 :
    gives Params.standard [0x00012000, 0x0002C000] 0x00021522 5 0xFFFFEE90 = true ∧
    gives Params.standard [0x12345678, 0x9ABCDEF0] 0x00021522 5 0x00001426 = true ∧
    gives { Params.standard with easeSel := .legacy } [0x00012000, 0x0002C000] 0x00021522 5 0x0000035C = true := by
  decide

/-- V-N16; the last line LEGACY. -/
theorem test_nz16r3 :
    gives Params.standard [0x00012000, 0x0002C000, 0x00038000] 0x00321523 5 0xFFFFFDB0 = true ∧
    gives Params.standard [0x12345678, 0x9ABCDEF0, 0x0F1E2D3C] 0x00321523 5 0xFFFFEB4B = true ∧
    gives { Params.standard with easeSel := .legacy } [0x00012000, 0x0002C000, 0x00038000] 0x00321523 5 0xFFFFFE12 = true := by
  decide

/-- V-N16; the last line LEGACY. -/
theorem test_nz16r4 :
    gives Params.standard [0x00012000, 0x0002C000, 0x00038000, 0x00044000] 0x04321524 5 0x00001741 = true ∧
    gives Params.standard [0x12345678, 0x9ABCDEF0, 0x0F1E2D3C, 0x4B5A6978] 0x04321524 5 0x00000851 = true ∧
    gives { Params.standard with easeSel := .legacy } [0x00012000, 0x0002C000, 0x00038000, 0x00044000]
      0x04321524 5 0x00000003 = true := by
  decide

/-- V-N16. -/
theorem test_nz16u1 :
    gives Params.standard [0x00012000] 0x00001525 5 0x00008E38 = true ∧
    gives Params.standard [0x12345678] 0x00001525 5 0x0000608C = true ∧
    gives Params.standard [0x00106980] 0x00001525 5 0x00000000 = true ∧
    gives Params.standard [0x00108000] 0x00001525 5 0x00000738 = true := by
  decide

/-- V-N16. -/
theorem test_nz16u2 :
    gives Params.standard [0x00012000, 0x0002C000] 0x00021526 5 0x00005EDB = true ∧
    gives Params.standard [0x12345678, 0x9ABCDEF0] 0x00021526 5 0x0000A5EA = true := by
  decide

/-- V-N16. -/
theorem test_nz16u3 :
    gives Params.standard [0x00012000, 0x0002C000, 0x00038000] 0x00321527 5 0x00007BF0 = true ∧
    gives Params.standard [0x12345678, 0x9ABCDEF0, 0x0F1E2D3C] 0x00321527 5 0x00005C52 = true := by
  decide

/-- V-N16. -/
theorem test_nz16u4 :
    gives Params.standard [0x00012000, 0x0002C000, 0x00038000, 0x00044000] 0x04321528 5 0x0000A7E1 = true ∧
    gives Params.standard [0x12345678, 0x9ABCDEF0, 0x0F1E2D3C, 0x4B5A6978] 0x04321528 5 0x00008E34 = true := by
  decide

/-- V-N8. -/
theorem test_nz8r1 :
    gives Params.standard [0x00000120] 0x00001531 5 0x00000003 = true ∧
    gives Params.standard [0x00001234] 0x00001531 5 0x00000007 = true ∧
    gives { Params.standard with easeSel := .legacy } [0x00001092] 0x00001531 5 0x00000044 = true := by
  decide

/-- V-N8. -/
theorem test_nz8r2 :
    gives Params.standard [0x00000120, 0x000002C0] 0x00021532 5 0xFFFFFFEF = true ∧
    gives Params.standard [0x00001234, 0x00005678] 0x00021532 5 0x00000000 = true := by
  decide

/-- V-N8. -/
theorem test_nz8r3 :
    gives Params.standard [0x00000120, 0x000002C0, 0x00000380] 0x00321533 5 0xFFFFFFFD = true ∧
    gives Params.standard [0x00001234, 0x00005678, 0x00009ABC] 0x00321533 5 0x00000007 = true := by
  decide

/-- V-N8. -/
theorem test_nz8u1 :
    gives Params.standard [0x00000120] 0x00001535 5 0x00000086 = true ∧
    gives Params.standard [0x00001234] 0x00001535 5 0x0000008E = true ∧
    gives Params.standard [0x00001080] 0x00001535 5 0x000000FF = true ∧
    gives { Params.standard with easeSel := .legacy } [0x00002792] 0x00001535 5 0x000000FF = true := by
  decide

/-- V-N8. -/
theorem test_nz8u2 :
    gives Params.standard [0x00000120, 0x000002C0] 0x00021536 5 0x0000005E = true ∧
    gives Params.standard [0x00001234, 0x00005678] 0x00021536 5 0x00000080 = true := by
  decide

/-- V-N8. -/
theorem test_nz8u3 :
    gives Params.standard [0x00000120, 0x000002C0, 0x00000380] 0x00321537 5 0x0000007A = true ∧
    gives Params.standard [0x00001234, 0x00005678, 0x00009ABC] 0x00321537 5 0x0000008E = true := by
  decide

/-- V-N8. -/
theorem test_nz8h1 :
    gives Params.standard [0x00000120] 0x00001539 5 0x0000008E = true ∧
    gives Params.standard [0x00001234] 0x00001539 5 0x00000098 = true := by
  decide

/-- V-N8. -/
theorem test_nz8h2 :
    gives Params.standard [0x00000120, 0x000002C0] 0x0002153A 5 0x0000005E = true ∧
    gives Params.standard [0x00001234, 0x00005678] 0x0002153A 5 0x0000007D = true := by
  decide

/-- V-N8. -/
theorem test_nz8h3 :
    gives Params.standard [0x00000120, 0x000002C0, 0x00000380] 0x0032153B 5 0x0000007B = true ∧
    gives Params.standard [0x00001234, 0x00005678, 0x00009ABC] 0x0032153B 5 0x0000008E = true := by
  decide

/-- The same noise command with another `PERM` gives another value: the table is read (43_noise_kernel.md R191). -/
theorem test_perm_is_read :
    gives { Params.standard with perm := exchanged } [0] 0x00001220 2 160 = true ∧
    gives { Params.standard with perm := exchanged } [1] 0x00001220 2 151 = true := by
  decide

/-- V-RATE 1, 3, 9. -/
theorem test_setrate :
    (sent (loaded Params.standard [100]) 0x00001044).minMicros = 10000 ∧
    (sent (loaded Params.standard [0]) 0x00001044).minMicros = 0 ∧
    (sent (loaded Params.standard [1000001]) 0x00001044).minMicros = 0 := by
  decide

/-- V-RATE 6, 7, 8, from `MINMICROS = 10000`. -/
theorem test_setratec :
    let s := fun r => { loaded Params.standard [r] with minMicros := 10000 }
    (sent (s 400) 0x00001045).minMicros = 10000 ∧ (sent (s 0) 0x00001045).minMicros = 10000 ∧
    (sent (s 50) 0x00001045).minMicros = 20000 := by
  decide

/-- A frame with given inputs. -/
def frame (kind : FrameKind) (color : Color) (scale : Byte) : Frame :=
  { kind := kind, color := color, scale := scale, delay := none }

/-- V-S2, V-COLOR: what each `SHOW` fixes. -/
theorem test_shows :
    (sent (loaded Params.standard [0x180]) 0x00001040).seq = .f1 (frame .leds 0 128) ∧
    (sent (loaded Params.standard []) 0x00000041).seq = .f1 (frame .leds 0 255) ∧
    (sent (loaded Params.standard [0x12FF8000, 64]) 0x00021042).seq = .f1 (frame .color 0xFF8000 64) ∧
    (sent (loaded Params.standard [0x12FF8000]) 0x00001043).seq = .f1 (frame .color 0xFF8000 255) := by
  decide

/-- V-DELAY: accepted with `ms`. -/
theorem test_delay : (sent (loaded Params.standard [3]) 0x00001046).seq = .delayStart 3 := by
  decide

/-! ### One step of the sequencer -/

/-- A block in the sequencer state `q` whose environment answers `r`. -/
def doing (q : SeqState) (r : Word) : State := { State.reset with seq := q, answers := [some r] }

/-- One step. -/
def stepped (s : State) : State := match step s with
  | .next t => t
  | _ => s

/-- V-S1: `LASTSHOW = 50003`, `MINMICROS = 10000`: 9999 microseconds are too few, 10000 are enough; and the wrap case. -/
theorem test_floor :
    let s := fun last t => { doing (.f2w (frame .leds 0 255)) t with minMicros := 10000, lastShow := last }
    (stepped (s 50003 60002)).seq = .f2w (frame .leds 0 255) ∧
    (stepped (s 50003 60003)).seq = .f2s (frame .leds 0 255) ∧
    (stepped (s 0xFFFFF000 0x710)).seq = .f2w (frame .leds 0 255) ∧
    (stepped (s 0xFFFFF000 0x1710)).seq = .f2s (frame .leds 0 255) := by
  decide

/-- V-S3: the governor answers half the scale. -/
theorem test_power :
    let t := stepped { doing (.f3 (frame .leds 0 200)) 100 with pwrEn := true, pwrData := 0xDEAD0003, nCtrl := 1 }
    t.seq = .fa (frame .leds 0 100) 1 0 ∧ t.log = [.pwr 200 0xDEAD0003 100] := by
  decide

/-- V-MAXCTRL: the walk bound. -/
theorem test_walk_bound :
    let p : Params := { Params.standard with maxControllers := 2 }
    (stepped { loaded p [] with seq := .f3 (frame .leds 0 9), nCtrl := 3 }).seq = .fa (frame .leds 0 9) 2 0 := by
  decide

/-- The numbers on the ports (20_memory.md R71, R72): the traces `EVT(1)`, `EVT(2)`, `EVT(3)`, and
`CTL(BEGIN, 0, 3, 0) -> 0xA0A0A0A0`, kind 2, of V-S2. -/
theorem test_port_numbers :
    (stepped (doing (.f1 (frame .leds 0 255)) 0)).log = [.evt 1] ∧
    (stepped (doing (.f8a (frame .leds 0 255)) 0)).log = [.evt 2] ∧
    (stepped (doing (.f8b (frame .leds 0 255)) 0)).log = [.evt 3, .respond 0 0] ∧
    (stepped (doing (.faBegin (frame .leds 0 255) 2 0 3) 0xA0A0A0A0)).log = [.ctl 2 0 3 0 0xA0A0A0A0] := by
  decide

/-- V-S6: controller 0 enabled, controller 1 not. -/
theorem test_pass_a :
    (stepped (doing (.fa (frame .leds 0 255) 2 0) 1)).seq = .faSize (frame .leds 0 255) 2 0 ∧
    (stepped (doing (.faSize (frame .leds 0 255) 2 0) 3)).seq = .faBegin (frame .leds 0 255) 2 0 3 ∧
    (stepped (doing (.faBegin (frame .leds 0 255) 2 0 3) 0xAAAA0001)).token 0 = 0xAAAA0001 ∧
    (stepped (doing (.fa (frame .leds 0 255) 2 1) 0)).seq = .faDither (frame .leds 0 255) 2 1 := by
  decide

/-- V-DITHER: 99 sends `SETDITHER`, 100 does not. -/
theorem test_dither :
    let s := fun fps => { doing (.faDither (frame .leds 0 255) 2 1) 0 with fps := fps }
    (stepped (s 99)).log = [.ctl 3 1 0 0 0] ∧ (stepped (s 100)).log = [] := by
  decide

/-- V-COLOR: `EMITCOLOR` with the colour and the scale; V-S2: `END` with the token. -/
theorem test_pass_b_c :
    let on := fun q => { doing q 0 with enl := [true, true], tok := [0xA0A0A0A0, 0x0B0B0B0B] }
    (stepped (on (.fb (frame .color 0xFF8000 64) 2 1))).log = [.ctl 5 1 0x00FF8000 64 0] ∧
    (stepped (on (.fc (frame .leds 0 128) 2 1))).log = [.ctl 6 1 0x0B0B0B0B 0 0] := by
  decide

/-- V-FPS: frames 25, 75 and 26; `NFRAMES = 0`; the millisecond wrap. -/
theorem test_fps :
    let s := fun n c mark now =>
      { doing (.f7 (frame .leds 0 255)) now with nFrames := n, frameCnt := c, lastMark := mark, fps := 20 }
    (stepped (s 25 24 0 1250)).fps = 20 ∧ (stepped (s 25 24 1450 1450)).fps = 25000 ∧
    (stepped (s 25 0 1250 7)).frameCnt = 1 ∧ (stepped (s 0 0 0 7)).fps = 0 ∧
    (stepped (s 25 24 0xFFFFFF00 0x64)).fps = 70 ∧ (stepped (s 65535 65534 0 1)).fps = 65535000 := by
  decide

/-- V-DELAY: the sleep waits while the clock stands; 1 of 3 ms is too early, 3 are the end. -/
theorem test_delay_steps :
    let d : DelayCtx := { start := 1000, ms := 3 }
    (stepped (doing (.delaySleep d 1000) 1000)).seq = .delaySleep d 1000 ∧
    (stepped (doing (.delayTest d) 1001)).seq = .delayTop d ∧
    (stepped (doing (.delayTest d) 1003)).seq = .idle := by
  decide

/-- Reset abandons a running frame without a response (70_reset_and_hazards.md R291). -/
theorem test_reset_in_a_frame :
    stepped { doing (.fb (frame .leds 0 128) 2 0) 0 with resetIn := [true], gscale := 3, answers := [] } =
      State.reset := by
  decide


/-! ### Witnesses: for each statement with hypotheses, a concrete case that meets them all, for each clause -/

theorem witness_EncodeOfDecode : decodeWord 0x04321524 = .ok (.nz16r4 5 1 2 3 4) := by decide

theorem witness_RowsDecideDecoding :
    (0x00001040 : Word) &&& Op.mask .showS = Op.pattern .showS ∧
    ∀ o : Op, (0x1A : Word) &&& o.mask ≠ o.pattern :=
  ⟨by decide, fun o => by cases o <;> decide⟩

theorem witness_IllegalWordIsAnswered :
    let s := { State.reset with cmds := [0x1A, 0] }
    s.seq = .idle ∧ s.resetIn = [] ∧ s.cmds = 0x1A :: [0] ∧ ∀ o : Op, (0x1A : Word) &&& o.mask ≠ o.pattern :=
  ⟨rfl, rfl, rfl, witness_RowsDecideDecoding.2⟩

theorem witness_StepRunsDecodedCommand :
    let s := { State.reset with cmds := [0x01234101], resetIn := [false, true] }
    s.seq = .idle ∧ s.resetNow = false ∧ s.cmds = 0x01234101 :: [] ∧
      decodeWord 0x01234101 = .ok (.ldi 1 0x1234) := by
  decide

theorem witness_SequencerStepFrame :
    let s := doing (.f2s (frame .leds 0 255)) 7
    s.seq ≠ .idle ∧ s.resetNow = false ∧ ∃ t, step s = .next t :=
  ⟨by decide, by decide, _, rfl⟩

theorem witness_ResetStepRestoresResetValues :
    { doing (.fb (frame .leds 0 255) 2 0) 7 with resetIn := [true] }.resetNow = true := by
  decide

theorem witness_ResetLeavesHostAndEnvironment :
    let s := { doing (.fb (frame .leds 0 255) 2 0) 7 with resetIn := [true, false], cmds := [0] }
    s.resetNow = true ∧ ∃ t, step s = .next t :=
  ⟨by decide, _, rfl⟩

theorem witness_OneResponsePerCommand :
    (∃ t, exec .showG State.reset = .next t) ∧ (∃ t, exec (.csrr 1 0x04) State.reset = .next t) ∧
    ∃ t, exec .nop State.reset = .next t :=
  ⟨⟨_, rfl⟩, ⟨_, rfl⟩, _, rfl⟩

theorem witness_ErrBitsAreSticky :
    let s := { State.reset with errIll := true, errCsre := true, cmds := [0] }
    s.resetNow = false ∧ s.errIll = true ∧ s.errCsre = true ∧ ∃ t, step s = .next t :=
  ⟨by decide, rfl, rfl, _, rfl⟩

/-- `LASTSHOW` changes in the stamp step, `FRAMECNT` and the others in the estimator step. -/
theorem witness_WritersOfEachRegister :
    (let s := doing (.f2s (frame .leds 0 255)) 7
     s.resetNow = false ∧ s.seq ≠ .idle ∧ ∃ t, step s = .next t ∧ t.lastShow ≠ s.lastShow) ∧
    (let s := doing (.f7 (frame .leds 0 255)) 7
     s.resetNow = false ∧ ∃ t, step s = .next t ∧ t.frameCnt ≠ s.frameCnt) :=
  ⟨⟨by decide, by decide, _, rfl, by decide⟩, by decide, _, rfl, by decide⟩

theorem witness_CsrReadCommand :
    ((0x00 : Byte).toNat, Csr.id) ∈ csrNumbers ∧ ((0x19 : Byte).toNat, Csr.pwrdata) ∈ csrNumbers ∧
    ∀ n : Nat, n ∈ [0x04, 0x0F, 0x1A, 0xFF] → ∀ c, (n, c) ∉ csrNumbers :=
  ⟨by decide, by decide, fun n hn c => by
    simp only [List.mem_cons, List.not_mem_nil, or_false] at hn
    rcases hn with rfl | rfl | rfl | rfl <;> cases c <;> decide⟩

/-- Read-only numbers and absent ones beside the writable ones. -/
theorem witness_CsrWriteCommand :
    ([0x00, 0x0F, 0x12, 0x14, 0x16, 0x1A, 0xFF] : List Byte).all
      (fun csr => decide (csr.toNat ∉ [0x10, 0x11, 0x13, 0x17, 0x18, 0x19])) = true := by
  decide

theorem witness_CsrWriteThenRead :
    ((0x10 : Byte).toNat, 8) ∈ [(0x10, 8), (0x11, 32), (0x13, 16), (0x17, 16), (0x18, 1), (0x19, 32)] ∧
    ((0x19 : Byte).toNat, 32) ∈ [(0x10, 8), (0x11, 32), (0x13, 16), (0x17, 16), (0x18, 1), (0x19, 32)] ∧
    (∃ t, exec (.csrw 0x10 2) State.reset = .next t) ∧ ∃ t, exec (.csrw 0x19 2) State.reset = .next t :=
  ⟨by decide, by decide, ⟨_, rfl⟩, _, rfl⟩

theorem witness_LerpLiesBetweenItsEnds :
    let s := loaded Params.standard [0x80, 0x7F, 0x10000]
    (∃ t, exec (.lerp7 4 1 2 3) s = .next t) ∧ (∃ t, exec (.lerp15 4 1 2 3) s = .next t) ∧
      zextOf 8 (s.reg 3) = 0 ∧ zextOf 16 (s.reg 3) = 0 :=
  ⟨⟨_, rfl⟩, ⟨_, rfl⟩, by decide, by decide⟩

theorem witness_EaseShape :
    127 ≤ 128 ∧ 128 ≤ 255 ∧ 255 ≤ 255 ∧ 32767 ≤ 32768 ∧ 32768 ≤ 65535 ∧ 65535 ≤ 65535 := by
  decide

theorem witness_UnsignedAluRanges :
    let s := loaded Params.standard [0xFFFFFFFF, 0xFFFF]
    (∃ t, exec (.scale8 4 1 2) s = .next t) ∧ (∃ t, exec (.scale8v 4 1 2) s = .next t) ∧
    (∃ t, exec (.scale16 4 1 2) s = .next t) ∧ (∃ t, exec (.qadd8 4 1 2) s = .next t) ∧
    (∃ t, exec (.ease8 4 1) s = .next t) ∧ ∃ t, exec (.ease16 4 1) s = .next t :=
  ⟨⟨_, rfl⟩, ⟨_, rfl⟩, ⟨_, rfl⟩, ⟨_, rfl⟩, ⟨_, rfl⟩, _, rfl⟩

/-- Index 255 twice; indices 256 and 0; the values 0 and 255. -/
theorem witness_TableIsAPermutation :
    let s := loaded Params.standard [255, 0xFFFFFEFF, 256, 0]
    s.params.wellFormed = true ∧
    (∃ t t', exec (.plut 5 1) s = .next t ∧ exec (.plut 5 2) s = .next t' ∧ zextOf 9 (s.reg 1) < 256 ∧
      zextOf 9 (s.reg 2) < 256 ∧ t.reg 5 = t'.reg 5) ∧
    (∃ t t', exec (.plut 5 3) s = .next t ∧ exec (.plut 5 4) s = .next t' ∧ zextOf 9 (s.reg 3) = 256 ∧
      zextOf 9 (s.reg 4) = 0) ∧
    0 < 256 ∧ 255 < 256 :=
  ⟨test_wf_standard, ⟨_, _, rfl, rfl, by decide, by decide, by decide⟩,
    ⟨_, _, rfl, rfl, by decide, by decide⟩, by decide, by decide⟩

theorem witness_GradientCases : Params.standard.grad4 = .standard := rfl

theorem witness_LatticeValues :
    (let s := loaded Params.standard [0x00050000, 0xAB070000, 0xFFFF0000, 0]
     (∀ r : Reg, r ∈ [1, 2, 3, 4] → zextOf 16 (s.reg r) = 0) ∧ s.params.grad4 = .standard) ∧
    (let s := loaded Params.standard [0x0500, 0xFFFF0700, 0xFF00]
     ∀ r : Reg, r ∈ [1, 2, 3] → zextOf 8 (s.reg r) = 0) := by
  decide

theorem witness_WideNoisePeriod :
    (0xAB050001 : Word).toNat % 2 ^ 24 = (0x00050001 : Word).toNat % 2 ^ 24 ∧
    (0x01FFFFFF : Word).toNat % 2 ^ 24 = (0xFFFFFFFF : Word).toNat % 2 ^ 24 := by
  decide

theorem witness_OnlyTheNearCornerContributes :
    (∀ c : Word, c ∈ [0x000500FF, 0x00FF00FF, 0xFFFF0000, 0x00010080] → zextOf 16 c < 256) ∧
    (∀ c : Half, c ∈ [0x050F, 0xFF0F, 0x0100] → c.toNat % 256 < 16) := by
  simp only [List.mem_cons, List.not_mem_nil, or_false, forall_eq_or_imp, forall_eq]
  decide

theorem witness_NarrowOneDimensionalRange :
    (∃ t, exec (.nz8r1 5 1) (loaded Params.standard [0x1080]) = .next t) ∧ Params.standard.easeSel = .quad ∧
    ∃ t, exec (.nz8r1 5 1) (loaded { Params.standard with easeSel := .legacy } [0x1092]) = .next t :=
  ⟨⟨_, rfl⟩, rfl, _, rfl⟩

theorem witness_UnsignedNoiseParity :
    let s := loaded Params.standard [0x1080, 0x02C0, 0x0380]
    (∃ t, exec (.nz16u1 5 1) s = .next t) ∧ (∃ t, exec (.nz8u1 5 1) s = .next t) ∧
    (∃ t, exec (.nz8u2 5 1 2) s = .next t) ∧ ∃ t, exec (.nz8u3 5 1 2 3) s = .next t :=
  ⟨⟨_, rfl⟩, ⟨_, rfl⟩, ⟨_, rfl⟩, _, rfl⟩

/-- The ends of the two windows and the values next to them. -/
theorem witness_RescaleWindows :
    ∀ raw : Int, raw ∈ [-32768, -19053, -19052, -17309, -17308, 17355, 17356, 19078, 19079, 32767] →
      -32768 ≤ raw ∧ raw ≤ 32767 := by
  decide

theorem witness_ComputationsArePure :
    let s := loaded Params.standard [7, 9]
    let s' := { s with gscale := 3, pc := 12, log := [.yld] }
    (Instr.scale8 4 1 2).op ∉ [Op.csrr, .csrw, .showS, .showG, .showC, .showCG, .setrate, .setratec, .delay] ∧
    s.g = s'.g ∧ s.params = s'.params ∧ (∃ t, exec (.scale8 4 1 2) s = .next t) ∧
    ∃ t', exec (.scale8 4 1 2) s' = .next t' :=
  ⟨by decide, rfl, rfl, ⟨_, rfl⟩, _, rfl⟩

/-- Parameters with `MANUAL_EVENTS`, parameters with `ACCURATE_CLOCK`. -/
def manual : Params := { Params.standard with manualEvents := true }
def accurate : Params := { Params.standard with accurateClock := true }

/-- The context of a `DELAY`, and a frame inside it. -/
def delayCtx : DelayCtx := { start := 1000, ms := 3 }
def delayFrame : Frame := { kind := .leds, color := 0, scale := 255, delay := some delayCtx }

/-- A block with parameters `p`, in the sequencer state `q`, its environment answering `r`. -/
def placed (p : Params) (q : SeqState) (r : Word) : State :=
  { State.resetOf p with seq := q, answers := [some r] }

theorem placed_answering (p : Params) (q : SeqState) (r : Word) : Answering (placed p q r) r [] := ⟨rfl, rfl⟩

theorem witness_FrameEvents :
    let f := frame .leds 0 255
    (Answering (placed Params.standard (.f1 f) 0) 0 [] ∧ Params.standard.manualEvents = false) ∧
    (Answering (placed manual (.f1 f) 0) 0 [] ∧ manual.manualEvents = true) ∧
    Answering (placed manual (.f8a f) 0) 0 [] ∧
    (Answering (placed Params.standard (.f8b f) 0) 0 [] ∧ f.delay = none) ∧
    (Answering (placed manual (.f8b f) 0) 0 []) ∧
    (Answering (placed Params.standard (.f8b delayFrame) 0) 0 [] ∧ delayFrame.delay = some delayCtx) ∧
    Answering (placed manual (.f8b delayFrame) 0) 0 [] :=
  ⟨⟨placed_answering .., rfl⟩, ⟨placed_answering .., rfl⟩, placed_answering .., ⟨placed_answering .., rfl⟩,
    placed_answering .., ⟨placed_answering .., rfl⟩, placed_answering ..⟩

/-- `MINMICROS = 0`, 1 and the largest value. -/
theorem witness_FloorAndStamp :
    let s := placed Params.standard (.f2w (frame .leds 0 255)) 5
    let s' := placed Params.standard (.f2s (frame .leds 0 255)) 5
    Answering s 5 [] ∧ s.minMicros = 0 ∧ Answering { s with minMicros := 1 } 5 [] ∧ (1 : Word) ≠ 0 ∧
      Answering { s with minMicros := 0xFFFFFFFF } 5 [] ∧ Answering s' 5 [] :=
  ⟨⟨rfl, rfl⟩, rfl, ⟨rfl, rfl⟩, by decide, ⟨rfl, rfl⟩, rfl, rfl⟩

/-- V-S1. -/
theorem witness_StampsKeepTheFloor :
    let f := frame .leds 0 255
    let s := { State.reset with
      seq := .f2w f, minMicros := 10000, lastShow := 50003, answers := [some 60003, some 60010] }
    s.seq = .f2w f ∧ s.minMicros ≠ 0 ∧ s.resetIn = [] ∧ s.answers = some 60003 :: some 60010 :: [] ∧
      (∃ u, Host.Core.run core 2 s = .next u ∧ u.seq = .f3 f) ∧
      ((60003 : Word) - s.lastShow).toNat ≤ ((60010 : Word) - s.lastShow).toNat :=
  ⟨rfl, by decide, rfl, rfl, ⟨_, rfl, by decide⟩, by decide⟩

theorem witness_PowerScalingStep :
    let s := placed Params.standard (.f3 (frame .color 5 200)) 100
    Answering s 100 [] ∧ s.pwrEn = false ∧ Answering { s with pwrEn := true, nCtrl := 65 } 100 [] :=
  ⟨⟨rfl, rfl⟩, rfl, rfl, rfl⟩

/-- A controller that is enabled, and one that is not. -/
def enabledOne : CtlAnswers :=
  { enabledR := 1, sizeR := 3, tokenR := 0xA0A0A0A0, ditherR := 0, emitR := 0, endR := 0 }
def disabledOne : CtlAnswers := { enabledOne with enabledR := 0 }

/-- An enabled controller with the dither gate (`FPS = 99`), a disabled one without (`FPS = 100`). -/
theorem witness_PassAOfOneController :
    (let s := { State.reset with
       fps := 99, seq := .fa (frame .leds 0 255) 2 0, answers := [some 1, some 3, some 0xA0A0A0A0, some 0] }
     0 < 2 ∧ s.resetIn = [] ∧
       s.answers = (passAIo (decide (s.fps.toNat < 100)) 0 enabledOne).map (fun x => some x.1) ++ []) ∧
    (let s := { State.reset with fps := 100, seq := .fa (frame .leds 0 255) 2 1, answers := [some 0] }
     1 < 2 ∧ s.resetIn = [] ∧
       s.answers = (passAIo (decide (s.fps.toNat < 100)) 1 disabledOne).map (fun x => some x.1) ++ []) := by
  decide

theorem witness_PassBAndCOfOneController :
    let on := fun q => { placed Params.standard q 0 with enl := [true, false], tok := [7, 0] }
    Answering (on (.fb (frame .leds 0 255) 2 0)) 0 [] ∧ (on (.fb (frame .leds 0 255) 2 0)).enabled 0 = true ∧
    Answering (on (.fb (frame .color 5 255) 2 0)) 0 [] ∧ (on (.fb (frame .color 5 255) 2 0)).enabled 0 = true ∧
    Answering (on (.fb (frame .color 5 255) 2 1)) 0 [] ∧ (on (.fb (frame .color 5 255) 2 1)).enabled 1 = false ∧
    Answering (on (.fc (frame .leds 0 255) 2 0)) 0 [] ∧ Answering (on (.fc (frame .leds 0 255) 2 1)) 0 [] :=
  ⟨⟨rfl, rfl⟩, rfl, ⟨rfl, rfl⟩, rfl, ⟨rfl, rfl⟩, rfl, ⟨rfl, rfl⟩, rfl, rfl⟩

/-- Frame 25 of 25 and frame 24; the largest `FRAMECNT`. -/
theorem witness_FpsEstimatorStep :
    let s := fun c : Half => { placed Params.standard (.f7 (frame .leds 0 255)) 1250 with frameCnt := c }
    Answering (s 24) 1250 [] ∧ (s 24).frameCnt.toNat ≤ 65534 ∧ (s 24).frameCnt.toNat + 1 ≥ (s 24).nFrames.toNat ∧
    Answering (s 23) 1250 [] ∧ (s 23).frameCnt.toNat + 1 < (s 23).nFrames.toNat ∧
    (s 65534).frameCnt.toNat ≤ 65534 :=
  ⟨⟨rfl, rfl⟩, by decide, by decide, ⟨rfl, rfl⟩, by decide, by decide⟩

/-- Each state of the loop; 3 ms elapsed and 2 ms elapsed. -/
theorem witness_DelayLoopSteps :
    Answering (placed Params.standard (.delayStart 3) 1000) 1000 [] ∧
    (Answering (placed accurate (.delayTop delayCtx) 1000) 1000 [] ∧ accurate.accurateClock = true) ∧
    (Answering (placed Params.standard (.delayTop delayCtx) 1000) 1000 [] ∧
      Params.standard.accurateClock = false) ∧
    Answering (placed Params.standard (.delaySleep delayCtx 1000) 1000) 1000 [] ∧
    Answering (placed Params.standard (.delayYield delayCtx) 0) 0 [] ∧
    (Answering (placed Params.standard (.delayTest delayCtx) 1003) 1003 [] ∧
      ((1003 : Word).toNat + 2 ^ 32 - delayCtx.start.toNat) % 2 ^ 32 ≥ delayCtx.ms.toNat) ∧
    (Answering (placed Params.standard (.delayTest delayCtx) 1002) 1002 [] ∧
      ((1002 : Word).toNat + 2 ^ 32 - delayCtx.start.toNat) % 2 ^ 32 < delayCtx.ms.toNat) :=
  ⟨⟨rfl, rfl⟩, ⟨⟨rfl, rfl⟩, rfl⟩, ⟨⟨rfl, rfl⟩, rfl⟩, ⟨rfl, rfl⟩, ⟨rfl, rfl⟩, ⟨⟨rfl, rfl⟩, by decide⟩, ⟨rfl, rfl⟩,
    by decide⟩

theorem witness_UnansweredTransactionWaits :
    let s := { State.reset with seq := .f2s (frame .leds 0 255), answers := [none, some 7] }
    AwaitsAnswer s ∧ s.resetIn = [] ∧ s.answers = none :: [some 7] :=
  ⟨trivial, rfl, rfl⟩

/-- A block about to run a frame with a floor, a power callback and two controllers. -/
def frameBlock (p : Params) : State :=
  { State.resetOf p with
    nCtrl := 2, minMicros := 10000, lastShow := 50003, pwrEn := true, pwrData := 0xDEAD0003, frameCnt := 24 }

/-- Answers that fit its frame: one sample too early, then 10000 microseconds. -/
def frameAnswers : FrameAnswers :=
  { beginAck := 0, waits := [60002], reached := 60003, stamp := 60010, power := 100,
    ctls := [enabledOne, disabledOne], now := 1250, endAck := 0, showAck := 0 }

theorem frameAnswers_fit (p : Params) (hp : p.maxControllers = 64) : frameAnswers.fit (frameBlock p) := by
  refine ⟨?_, fun _ => ⟨fun t ht => ?_, ?_⟩⟩
  · simp [frameAnswers, frameBlock, State.resetOf, State.walkBound, hp]
  · obtain rfl : t = 60002 := by simpa [frameAnswers] using ht
    show ((60002 : Word) - 50003).toNat < (10000 : Word).toNat
    decide
  · show (10000 : Word).toNat ≤ ((60003 : Word) - 50003).toNat
    decide

theorem witness_FrameRunsToItsEnd :
    let f := frame .color 0x112233 200
    let s := { frameBlock Params.standard with
      seq := .f1 f
      answers := (frameIo (frameBlock Params.standard) f frameAnswers).map (fun x => some x.1) ++ [none] }
    s.seq = .f1 f ∧ s.resetIn = [] ∧ s.tok.length = s.params.maxControllers ∧
      s.enl.length = s.params.maxControllers ∧ s.frameCnt.toNat ≤ 65534 ∧ frameAnswers.fit s ∧
      s.answers = (frameIo s f frameAnswers).map (fun x => some x.1) ++ [none] :=
  ⟨rfl, rfl, rfl, rfl, by decide, frameAnswers_fit Params.standard rfl, rfl⟩

/-- The hypotheses of `ShowCommandRunsItsFrame` for a command with its word and frame. -/
theorem show_fits (i : Instr) (w : Word) (f : Frame) (h : showFrame (frameBlock Params.standard) i = some (w, f)) :
    let s := { frameBlock Params.standard with
      cmds := [w, 0]
      answers := (frameIo (frameBlock Params.standard) f frameAnswers).map (fun x => some x.1) ++ [none] }
    showFrame s i = some (w, f) ∧ s.seq = .idle ∧ s.resetIn = [] ∧ s.cmds = w :: [0] ∧
      s.tok.length = s.params.maxControllers ∧ s.enl.length = s.params.maxControllers ∧ s.frameCnt.toNat ≤ 65534 ∧ frameAnswers.fit s ∧
      s.answers = (frameIo s f frameAnswers).map (fun x => some x.1) ++ [none] :=
  ⟨by cases i <;> exact h, rfl, rfl, rfl, rfl, rfl,
    show (24 : Half).toNat ≤ 65534 by decide, frameAnswers_fit Params.standard rfl, rfl⟩

/-- Each of the four `SHOW` commands has its word and frame, so `show_fits` applies. -/
theorem witness_ShowCommandRunsItsFrame :
    (∃ w f, showFrame (frameBlock Params.standard) (.showS 1) = some (w, f)) ∧
    (∃ w f, showFrame (frameBlock Params.standard) .showG = some (w, f)) ∧
    (∃ w f, showFrame (frameBlock Params.standard) (.showC 1 15) = some (w, f)) ∧
    ∃ w f, showFrame (frameBlock Params.standard) (.showCG 15) = some (w, f) :=
  ⟨⟨_, _, rfl⟩, ⟨_, _, rfl⟩, ⟨_, _, rfl⟩, _, _, rfl⟩

/-- What the environment answers in an iteration of `DELAY`: the sleep, the frame, `YLD`, the last sample. -/
def delayIo (p : Params) : Io :=
  (if p.accurateClock then [] else sleepIo 1000 1 1001) ++ frameIo (frameBlock p) delayFrame frameAnswers ++
    [(0, .yld), (1003, .ms 1003)]

/-- With the sleep and, under `ACCURATE_CLOCK`, without. -/
theorem witness_DelayIterationRuns :
    ∀ p : Params, p = Params.standard ∨ p = accurate →
      let s := { frameBlock p with seq := .delayTop delayCtx, answers := (delayIo p).map (fun x => some x.1) ++ [none] }
      let f : Frame := { kind := .leds, color := 0, scale := s.gscale, delay := some delayCtx }
      let before : Io := if s.params.accurateClock then [] else sleepIo 1000 1 1001
      let after : Io := [(0, .yld), (1003, .ms 1003)]
      s.seq = .delayTop delayCtx ∧ s.resetIn = [] ∧ (1001 : Word) ≠ 1000 ∧
        s.tok.length = s.params.maxControllers ∧ s.enl.length = s.params.maxControllers ∧ s.frameCnt.toNat ≤ 65534 ∧ frameAnswers.fit s ∧
        s.answers = (before ++ frameIo s f frameAnswers ++ after).map (fun x => some x.1) ++ [none] := by
  intro p hp
  have hm : p.maxControllers = 64 := by rcases hp with rfl | rfl <;> rfl
  exact ⟨rfl, rfl, by decide, by simp [frameBlock, State.resetOf], by simp [frameBlock, State.resetOf],
    show (24 : Half).toNat ≤ 65534 by decide, frameAnswers_fit p hm, rfl⟩

theorem witness_ResetMeetsInv : ({ Params.standard with perm := exchanged } : Params).wellFormed = true :=
  test_wf_other_perm

theorem reset_inv : State.reset.Inv :=
  ⟨test_wf_standard, rfl, rfl, by decide, by decide, trivial⟩

/-- A block in pass B that meets the invariant: controller 0 enabled with its token. -/
def inPassB : State :=
  { doing (.fb (frame .leds 0 255) 1 0) 0 with
    nCtrl := 1
    enl := true :: List.replicate 63 false
    tok := 0xA0A0A0A0 :: List.replicate 63 0 }

theorem inPassB_inv : inPassB.Inv :=
  ⟨test_wf_standard, rfl, rfl, by decide, by decide, fun h => absurd rfl h, rfl, Nat.zero_le _, fun j hj h => by
    obtain rfl : j = 0 := by omega
    cases h⟩

theorem witness_StepKeepsInv : inPassB.Inv ∧ ∃ t, step inPassB = .next t := ⟨inPassB_inv, _, rfl⟩

theorem witness_OnlyAllowedObservations : inPassB.Inv ∧ ∃ t, step inPassB = .next t := ⟨inPassB_inv, _, rfl⟩

end Sys2Proof.Tests
end

section
/-! PROOF. What the control registers read as (O16). -/

namespace Sys2Proof.Machine

/-- A flag appended below a word is its new bit 0. -/
theorem toNat_append_ofBool {w : Nat} (x : BitVec w) (b : Bool) :
    (x ++ BitVec.ofBool b).toNat = x.toNat * 2 + b.toNat :=
  BitVec.toNat_concat x b

/-- `CFG` as a number: its flags at bits 0 to 2, the reserved bits 0 (10_state.md R29). -/
theorem cfgWord_toNat (p : Params) :
    (cfgWord p).toNat = (if p.easeSel = .legacy then 1 else 0) + (if p.manualEvents = true then 2 else 0) +
      (if p.accurateClock = true then 4 else 0) := by
  simp only [cfgWord, toNat_append_ofBool, BitVec.toNat_ofNat]
  cases p.easeSel <;> cases p.manualEvents <;> cases p.accurateClock <;> rfl

/-- `ERR` as a number: `ILL` at bit 0, `CSRE` at bit 1, the reserved bits 0 (10_state.md R30). -/
theorem errWord_toNat (s : State) :
    s.errWord.toNat = (if s.errIll = true then 1 else 0) + (if s.errCsre = true then 2 else 0) := by
  simp only [State.errWord, toNat_append_ofBool, BitVec.toNat_ofNat]
  cases s.errIll <;> cases s.errCsre <;> rfl

/-- `PWRCTL` as a number: its one flag at bit 0, the reserved bits 0 (10_state.md R39). -/
theorem readCsr_pwrctl_toNat (s : State) :
    (s.readCsr .pwrctl).toNat = if s.pwrEn = true then 1 else 0 := by
  simp only [State.readCsr, toNat_append_ofBool, BitVec.toNat_ofNat]
  cases s.pwrEn <;> rfl

/-- Settles O16, register by register: the registers of flags by their own lemmas, the 8- and 16-bit ones by
zero extension, the full words by definition. -/
theorem csrReadValues : Obligations.CsrReadValues := by
  intro s
  have zeroExtended {w : Nat} (x : BitVec w) (h : w ≤ 32) : (x.setWidth 32).toNat = x.toNat :=
    BitVec.toNat_setWidth_of_le h
  exact ⟨rfl, cfgWord_toNat s.params, errWord_toNat s, BitVec.toNat_ofNat s.params.maxControllers 32,
    zeroExtended s.gscale (by decide), rfl, rfl, zeroExtended s.nFrames (by decide), rfl,
    zeroExtended s.frameCnt (by decide), rfl, zeroExtended s.nCtrl (by decide), readCsr_pwrctl_toNat s, rfl⟩

end Sys2Proof.Machine
end

section
/-! PROOF. The decoder reads the word of every command back (30_encoding.md R87, R91). -/

namespace Sys2Proof

/-! ### The fields of a word as numbers -/

theorem fieldOp_toNat (w : Word) : (fieldOp w).toNat = w.toNat % 2 ^ 8 := by
  simp [fieldOp]

theorem fieldRd_val (w : Word) : (fieldRd w).val = w.toNat / 2 ^ 8 % 2 ^ 4 := by
  simp [fieldRd, Nat.shiftRight_eq_div_pow]

theorem fieldRa_val (w : Word) : (fieldRa w).val = w.toNat / 2 ^ 12 % 2 ^ 4 := by
  simp [fieldRa, Nat.shiftRight_eq_div_pow]

theorem fieldRb_val (w : Word) : (fieldRb w).val = w.toNat / 2 ^ 16 % 2 ^ 4 := by
  simp [fieldRb, Nat.shiftRight_eq_div_pow]

theorem fieldRc_val (w : Word) : (fieldRc w).val = w.toNat / 2 ^ 20 % 2 ^ 4 := by
  simp [fieldRc, Nat.shiftRight_eq_div_pow]

theorem fieldRe_val (w : Word) : (fieldRe w).val = w.toNat / 2 ^ 24 % 2 ^ 4 := by
  simp [fieldRe, Nat.shiftRight_eq_div_pow]

theorem fieldImm_toNat (w : Word) : (fieldImm w).toNat = w.toNat / 2 ^ 12 % 2 ^ 16 := by
  simp [fieldImm, Nat.shiftRight_eq_div_pow]

theorem fieldCsr_toNat (w : Word) : (fieldCsr w).toNat = w.toNat / 2 ^ 16 % 2 ^ 8 := by
  simp [fieldCsr, Nat.shiftRight_eq_div_pow]

/-! ### The fields of the three formats -/

section Fields
variable (o : Op) (rd ra rb rc re : Reg) (imm16 : Half) (csr : Byte)

theorem formatR_toNat : (formatR o rd ra rb rc re).toNat =
    o.code + rd * 2 ^ 8 + ra * 2 ^ 12 + rb * 2 ^ 16 + rc * 2 ^ 20 + re * 2 ^ 24 := by
  have := o.code_lt
  rw [formatR_eq, BitVec.toNat_ofNat]
  omega

theorem formatI_toNat : (formatI o rd imm16).toNat = o.code + rd * 2 ^ 8 + imm16.toNat * 2 ^ 12 := by
  have := o.code_lt
  have := imm16.isLt
  rw [formatI_eq, BitVec.toNat_ofNat]
  omega

theorem formatC_toNat : (formatC o rd ra csr).toNat =
    o.code + rd * 2 ^ 8 + ra * 2 ^ 12 + csr.toNat * 2 ^ 16 := by
  have := o.code_lt
  have := csr.isLt
  rw [formatC_eq, BitVec.toNat_ofNat]
  omega

@[simp] theorem fieldOp_formatR : (fieldOp (formatR o rd ra rb rc re)).toNat = o.code := by
  have := o.code_lt
  rw [fieldOp_toNat, formatR_toNat]; omega

@[simp] theorem fieldRd_formatR : fieldRd (formatR o rd ra rb rc re) = rd := by
  have := o.code_lt
  apply Fin.ext; rw [fieldRd_val, formatR_toNat]; omega

@[simp] theorem fieldRa_formatR : fieldRa (formatR o rd ra rb rc re) = ra := by
  have := o.code_lt
  apply Fin.ext; rw [fieldRa_val, formatR_toNat]; omega

@[simp] theorem fieldRb_formatR : fieldRb (formatR o rd ra rb rc re) = rb := by
  have := o.code_lt
  apply Fin.ext; rw [fieldRb_val, formatR_toNat]; omega

@[simp] theorem fieldRc_formatR : fieldRc (formatR o rd ra rb rc re) = rc := by
  have := o.code_lt
  apply Fin.ext; rw [fieldRc_val, formatR_toNat]; omega

@[simp] theorem fieldRe_formatR : fieldRe (formatR o rd ra rb rc re) = re := by
  have := o.code_lt
  apply Fin.ext; rw [fieldRe_val, formatR_toNat]; omega

@[simp] theorem fieldOp_formatI : (fieldOp (formatI o rd imm16)).toNat = o.code := by
  have := o.code_lt
  rw [fieldOp_toNat, formatI_toNat]; omega

@[simp] theorem fieldRd_formatI : fieldRd (formatI o rd imm16) = rd := by
  have := o.code_lt
  apply Fin.ext; rw [fieldRd_val, formatI_toNat]; omega

@[simp] theorem fieldImm_formatI : fieldImm (formatI o rd imm16) = imm16 := by
  have := o.code_lt
  have := imm16.isLt
  apply BitVec.eq_of_toNat_eq; rw [fieldImm_toNat, formatI_toNat]; omega

@[simp] theorem fieldOp_formatC : (fieldOp (formatC o rd ra csr)).toNat = o.code := by
  have := o.code_lt
  rw [fieldOp_toNat, formatC_toNat]; omega

@[simp] theorem fieldRd_formatC : fieldRd (formatC o rd ra csr) = rd := by
  have := o.code_lt
  apply Fin.ext; rw [fieldRd_val, formatC_toNat]; omega

@[simp] theorem fieldRa_formatC : fieldRa (formatC o rd ra csr) = ra := by
  have := o.code_lt
  apply Fin.ext; rw [fieldRa_val, formatC_toNat]; omega

@[simp] theorem fieldCsr_formatC : fieldCsr (formatC o rd ra csr) = csr := by
  have := o.code_lt
  have := csr.isLt
  apply BitVec.eq_of_toNat_eq; rw [fieldCsr_toNat, formatC_toNat]; omega

end Fields

/-! ### The round trip -/

theorem Op.ofCode_code (o : Op) : Op.ofCode o.code = some o := by
  cases o <;> rfl

/-- The opcode byte of a command's word is its row's. -/
theorem fieldOp_encode (i : Instr) : (fieldOp (encode i)).toNat = i.op.code := by
  cases i <;> simp [encode, Instr.op]

/-- The fields of a command's word are the command's operands. -/
theorem build_encode (i : Instr) : i.op.build (encode i) = i := by
  cases i <;> simp [encode, Instr.op, Op.build]

/-- The opcode byte selects the command's row, its word meets that row's mask and match, and the row's fields
give the operands back. -/
theorem decodeWord_encode (i : Instr) : decodeWord (encode i) = .ok i := by
  have hrow : encode i &&& i.op.mask = i.op.pattern := Laws.EncodingRow.all i
  simp only [decodeWord, fieldOp_encode, Op.ofCode_code, hrow, if_true, build_encode]

/-! ### The words of claims -/

/-- A format R word decodes to the command that it encodes. -/
theorem decodeWord_wordR {i : Instr} (o : Op) {rd ra rb rc re : Reg} (h : encode i = formatR o rd ra rb rc re) :
    decodeWord (wordR o.code rd ra rb rc re) = .ok i := by
  have hw : wordR o.code rd ra rb rc re = encode i := (h.trans (formatR_eq ..)).symm
  rw [hw, decodeWord_encode]

/-- A format I word decodes to the command that it encodes. -/
theorem decodeWord_wordI {i : Instr} (o : Op) {rd : Reg} {imm16 : Half} (h : encode i = formatI o rd imm16) :
    decodeWord (wordI o.code rd imm16) = .ok i := by
  have hw : wordI o.code rd imm16 = encode i := (h.trans (formatI_eq ..)).symm
  rw [hw, decodeWord_encode]

/-- A format C word decodes to the command that it encodes. -/
theorem decodeWord_wordC {i : Instr} (o : Op) {rd ra : Reg} {csr : Byte} (h : encode i = formatC o rd ra csr) :
    decodeWord (wordC o.code rd ra csr) = .ok i := by
  have hw : wordC o.code rd ra csr = encode i := (h.trans (formatC_eq ..)).symm
  rw [hw, decodeWord_encode]

end Sys2Proof
end

section
/-! PROOF. The move and CSR commands (O14, O15, O17; 40_move_csr.md). -/

namespace Sys2Proof.Machine

/-! ### Operands and results as numbers -/

/-- The low `n` bits of a register, stored in `n` bits. -/
theorem ofNat_zextOf (n : Nat) (v : Word) : BitVec.ofNat n (zextOf n v) = v.setWidth n := by
  apply BitVec.eq_of_toNat_eq
  simp [zextOf]

/-- Bit 0 of a register is its lowest bit as a number. -/
theorem decide_zextOf_one (v : Word) : decide (zextOf 1 v = 1) = v.getLsbD 0 := by
  simp [zextOf, BitVec.getLsbD, Nat.testBit_zero]

/-- A half word above the low half of a register (R102). -/
theorem append_setWidth_eq_ofNat (imm16 : Half) (v : Word) :
    imm16 ++ v.setWidth 16 = BitVec.ofNat 32 (imm16.toNat * 65536 + zextOf 16 v) := by
  apply BitVec.eq_of_toNat_eq
  have := imm16.isLt
  simp only [toNat_concat, BitVec.toNat_setWidth, BitVec.toNat_ofNat, zextOf]
  omega

/-! ### The numbers of the control registers (10_state.md R27) -/

theorem mem_csrNumbers_iff (n : Nat) (c : Csr) : (n, c) ∈ csrNumbers ↔ Csr.ofNumber n = some c := by
  constructor
  · have listed : ∀ p ∈ csrNumbers, Csr.ofNumber p.1 = some p.2 := by decide
    exact listed (n, c)
  · unfold Csr.ofNumber
    split <;> rintro ⟨⟩ <;> decide

theorem ofNumber_eq_none {n : Nat} (h : ∀ c, (n, c) ∉ csrNumbers) : Csr.ofNumber n = none :=
  Option.eq_none_iff_forall_ne_some.2 fun c hc => h c ((mem_csrNumbers_iff n c).2 hc)

/-- A register that takes a write has one of the six writable numbers (R27 column "access"). -/
theorem number_of_writeCsr {n : Nat} {c : Csr} {s t : State} {v : Word} (hn : Csr.ofNumber n = some c)
    (hw : s.writeCsr v c = some t) : n ∈ [0x10, 0x11, 0x13, 0x17, 0x18, 0x19] := by
  rw [← mem_csrNumbers_iff] at hn
  obtain ⟨rfl, -⟩ | ⟨rfl, -⟩ | ⟨rfl, -⟩ | ⟨rfl, -⟩ | ⟨rfl, -⟩ | ⟨rfl, -⟩ := writeCsr_cases hw <;>
    simp_all [csrNumbers]

/-! ### What the CSR commands answer -/

section Exec
variable {s t : State} {rd ra : Reg} {csr : Byte} {c : Csr}

theorem exec_csrr_existing (h : Csr.ofNumber csr.toNat = some c) :
    exec (.csrr rd csr) s = .next (s.writeResult rd (s.readCsr c)) := by
  simp only [exec, execCsrr, h]

theorem exec_csrr_absent (h : Csr.ofNumber csr.toNat = none) :
    exec (.csrr rd csr) s = .next (s.raiseIllegal .csr) := by
  simp only [exec, execCsrr, h]

theorem exec_csrw_writable (h : Csr.ofNumber csr.toNat = some c) (hw : s.writeCsr (s.reg ra) c = some t) :
    exec (.csrw csr ra) s = .next (t.respond 0) := by
  simp only [exec, execCsrw, h, hw]

/-- An absent register is refused, and so is one that takes no write. -/
theorem exec_csrw_refused (h : ∀ c, Csr.ofNumber csr.toNat = some c → s.writeCsr (s.reg ra) c = none) :
    exec (.csrw csr ra) s = .next (s.raiseIllegal .csr) := by
  cases hn : Csr.ofNumber csr.toNat with
  | none => simp only [exec, execCsrw, hn]
  | some c => simp only [exec, execCsrw, hn, h c hn]

end Exec

/-! ### The statements -/

/-- Settles O14: each command's word is its encoding, and its result is the number the rule gives. -/
theorem moveCommands : Obligations.MoveCommands := by
  refine ⟨fun s => ⟨?_, rfl⟩, fun s rd imm16 => ⟨?_, ?_⟩, fun s rd imm16 => ⟨?_, ?_⟩, fun s rd ra => ⟨?_, ?_⟩⟩
  · exact decodeWord_encode .nop
  · exact decodeWord_wordI .ldi rfl
  · exact completes_of_writeResult rfl (BitVec.ofNat_toNat 32 imm16).symm
  · exact decodeWord_wordI .ldih rfl
  · exact completes_of_writeResult rfl (append_setWidth_eq_ofNat imm16 (s.reg rd))
  · exact decodeWord_wordR .mov rfl
  · exact completes_of_writeResult rfl rfl

/-- Settles O15: the listed numbers are those of the model's registers, so a listed one is read and any other
is refused. -/
theorem csrReadCommand : Obligations.CsrReadCommand := by
  intro s rd csr
  have hword : decodeWord (wordC 0x08 rd 0 csr) = .ok (.csrr rd csr) := decodeWord_wordC .csrr rfl
  refine ⟨fun c hc => ⟨hword, ?_⟩, fun habsent => ⟨hword, ?_⟩⟩
  · exact completes_of_writeResult (exec_csrr_existing ((mem_csrNumbers_iff ..).1 hc)) rfl
  · exact exec_csrr_absent (ofNumber_eq_none habsent)

/-- Settles O17: six registers take the low bits of their width; a number that is none of theirs names no
register, or one that takes no write. -/
theorem csrWriteCommand : Obligations.CsrWriteCommand := by
  intro s ra
  have hword (csr : Byte) : decodeWord (wordC 0x09 0 ra csr) = .ok (.csrw csr ra) := decodeWord_wordC .csrw rfl
  simp only [ofNat_zextOf, decide_zextOf_one]
  refine ⟨hword, exec_csrw_writable (c := .gscale) rfl rfl, exec_csrw_writable (c := .minmicros) rfl rfl,
    exec_csrw_writable (c := .nframes) rfl rfl, exec_csrw_writable (c := .nctrl) rfl rfl,
    exec_csrw_writable (c := .pwrctl) rfl rfl, exec_csrw_writable (c := .pwrdata) rfl rfl,
    fun csr hcsr => ⟨hword csr, exec_csrw_refused fun c hc => ?_⟩⟩
  exact Option.eq_none_iff_forall_ne_some.2 fun t hw => hcsr (number_of_writeCsr hc hw)

end Sys2Proof.Machine
end

section
/-! PROOF. The ALU commands (O19 to O22, O24; 41_alu.md R111 to R120). -/

namespace Sys2Proof.Machine

/-- A command of format R that ends in a register result runs as its word says. -/
theorem runsAs_of_writeResult {i : Instr} {s : State} {rd ra rb rc re : Reg} {v w : Word} (o : Op)
    (hword : encode i = formatR o rd ra rb rc re) (hexec : exec i s = .next (s.writeResult rd v)) (hv : v = w) :
    RunsAs (wordR o.code rd ra rb rc re) i s rd w :=
  ⟨decodeWord_wordR o hword, completes_of_writeResult hexec hv⟩

/-! ### The operands of claims are the model's (00_scope.md R8) -/

/-- The low bits read as a signed number are the sign extension. -/
theorem sextOf_eq_toInt (n : Nat) (v : Word) : sextOf (n + 1) v = (v.setWidth (n + 1)).toInt := by
  have hhalf : zextOf (n + 1) v < 2 ^ n ↔ 2 * zextOf (n + 1) v < 2 ^ (n + 1) := by
    rw [Nat.pow_succ]; omega
  rw [BitVec.toInt_eq_toNat_cond, BitVec.toNat_setWidth, sextOf, Nat.add_sub_cancel, if_congr hhalf rfl rfl]
  norm_cast

theorem zextOf_reg_eight (s : State) (r : Reg) : zextOf 8 (s.reg r) = s.u8 r := (u8_eq s r).symm

theorem zextOf_reg_sixteen (s : State) (r : Reg) : zextOf 16 (s.reg r) = s.u16 r := (u16_eq s r).symm

theorem sextOf_reg_eight (s : State) (r : Reg) : sextOf 8 (s.reg r) = s.s8 r := sextOf_eq_toInt 7 (s.reg r)

theorem sextOf_reg_sixteen (s : State) (r : Reg) : sextOf 16 (s.reg r) = s.s16 r := sextOf_eq_toInt 15 (s.reg r)

/-! ### The named functions as the claims write them (41_alu.md R121) -/

theorem scale8_eq (v s : Nat) : scale8 v s = v * s / 2 ^ 8 := rfl

theorem scale16_eq (v s : Nat) : scale16 v s = v * s / 2 ^ 16 := rfl

theorem scale8v_eq (v s : Nat) : scale8v v s = if v = 0 ∨ s = 0 then 0 else v * s / 2 ^ 8 + 1 := rfl

theorem qadd8_eq (a b : Nat) : qadd8 a b = if a + b ≤ 255 then a + b else 255 := by
  unfold qadd8
  split <;> omega

theorem isFloorHalf_ediv_two (x : Int) : IsFloorHalf x (x / 2) := by
  unfold IsFloorHalf
  omega

/-- Scaling the magnitude as a natural number is scaling it as an integer, because it is never negative. -/
theorem lerpBy_eq_lerpSpec {scale : Nat → Nat → Nat} {n : Nat} (hscale : ∀ v f, scale v f = v * f / 2 ^ n)
    (a b : Int) (f : Nat) : lerpBy scale a b f = lerpSpec n a b f := by
  have scaled {x : Int} (hx : 0 ≤ x) : (scale x.toNat f : Int) = x * f / 2 ^ n := by
    rw [hscale]
    simp [Int.toNat_of_nonneg hx]
  unfold lerpBy lerpSpec
  split <;> rw [scaled (by omega)]

/-- Below the middle of `w` the doubled scaled square stays below `w`: the doubling loses no bit (R122 (f)). -/
theorem scaledSquare_double_mod {j w : Nat} (hj : 2 * j < w) : j * j / w * 2 % w = j * j / w * 2 := by
  have hle : j * j / w * 2 ≤ j := calc
    j * j / w * 2 = 2 * (j * j / w) := Nat.mul_comm ..
    _ ≤ 2 * (j * j) / w := Nat.mul_div_le_mul_div_assoc ..
    _ ≤ j := Nat.div_le_of_le_mul (by nlinarith)
  exact Nat.mod_eq_of_lt (by omega)

theorem ease8_eq_easeSpec {i : Nat} (hi : i < 256) : ease8 i = easeSpec 8 i := by
  have doubled {j : Nat} (hj : j < 128) : scale8 j j * 2 % 256 = j * j / 2 ^ 8 * 2 :=
    scaledSquare_double_mod (by omega)
  by_cases hlow : i < 128
  · simp [ease8, easeSpec, hlow, doubled hlow]
  · simp [ease8, easeSpec, hlow, doubled (show 255 - i < 128 by omega)]

theorem ease16_eq_easeSpec {i : Nat} (hi : i < 65536) : ease16 i = easeSpec 16 i := by
  have doubled {j : Nat} (hj : j < 32768) : scale16 j j * 2 % 65536 = j * j / 2 ^ 16 * 2 :=
    scaledSquare_double_mod (by omega)
  by_cases hlow : i < 32768
  · simp [ease16, easeSpec, hlow, doubled hlow]
  · simp [ease16, easeSpec, hlow, doubled (show 65535 - i < 32768 by omega)]

/-! ### The statements -/

/-- Settles O19: the three scales are the products shifted right. -/
theorem scaleCommands : Obligations.ScaleCommands := by
  intro s rd ra rb
  simp only [zextOf_reg_eight, zextOf_reg_sixteen]
  refine ⟨?_, ?_, ?_⟩
  · exact runsAs_of_writeResult .scale8 rfl rfl (congrArg unsignedResult (scale8_eq ..))
  · exact runsAs_of_writeResult .scale8v rfl rfl (congrArg unsignedResult (scale8v_eq ..))
  · exact runsAs_of_writeResult .scale16 rfl rfl (congrArg unsignedResult (scale16_eq ..))

/-- Settles O20: the lesser of 255 and the sum. -/
theorem saturatingAddCommand : Obligations.SaturatingAddCommand := by
  intro s rd ra rb
  simp only [zextOf_reg_eight]
  exact runsAs_of_writeResult .qadd8 rfl rfl (congrArg unsignedResult (qadd8_eq ..))

/-- Settles O21: the witness is the model's average, whose division by 2 rounds down; the ranges of the operands
bound it. -/
theorem averageCommands : Obligations.AverageCommands := by
  intro s rd ra rb
  simp only [sextOf_reg_eight, sextOf_reg_sixteen]
  constructor
  · have ha := s8_range s ra
    have hb := s8_range s rb
    exact ⟨(s.s8 ra + s.s8 rb) / 2, isFloorHalf_ediv_two _, by omega, by omega,
      runsAs_of_writeResult .avg7 rfl rfl rfl⟩
  · have ha := s16_range s ra
    have hb := s16_range s rb
    exact ⟨(s.s16 ra + s.s16 rb) / 2, isFloorHalf_ediv_two _, by omega, by omega,
      runsAs_of_writeResult .avg15 rfl rfl rfl⟩

/-- Settles O22: both lerps are `lerpBy`, one with the 8-bit and one with the 16-bit scale. -/
theorem lerpCommands : Obligations.LerpCommands := by
  intro s rd ra rb rc
  simp only [zextOf_reg_eight, zextOf_reg_sixteen, sextOf_reg_eight, sextOf_reg_sixteen]
  constructor
  · exact runsAs_of_writeResult .lerp7 rfl rfl (congrArg signedResult (lerpBy_eq_lerpSpec scale8_eq ..))
  · exact runsAs_of_writeResult .lerp15 rfl rfl (congrArg signedResult (lerpBy_eq_lerpSpec scale16_eq ..))

/-- Settles O24: the operands are in the range where the doubling is not cut. -/
theorem easeCommands : Obligations.EaseCommands := by
  intro s rd ra
  simp only [zextOf_reg_eight, zextOf_reg_sixteen]
  constructor
  · exact runsAs_of_writeResult .ease8 rfl rfl (congrArg unsignedResult (ease8_eq_easeSpec (u8_lt s ra)))
  · exact runsAs_of_writeResult .ease16 rfl rfl (congrArg unsignedResult (ease16_eq_easeSpec (u16_lt s ra)))

end Sys2Proof.Machine
end

section
/-! PROOF. Steps and runs against what the environment answers (42_sequencer.md R144): a step, or a run, is
described by the exchanges it makes, whatever answers and log it starts with. -/

namespace Sys2Proof.Machine

/-- `s` facing the environment: these answers to come, this log so far. -/
def State.facing (s : State) (answers : List (Option Word)) (log : List IoEvent) : State :=
  { s with answers := answers, log := log }

/-- One step from `s` makes exactly the exchanges `io` and then does `k`. -/
def Steps (s : State) (io : Io) (k : State → State) : Prop :=
  ∀ (rest : List (Option Word)) (log : List IoEvent),
    step (s.facing (io.map (fun x => some x.1) ++ rest) log) = .next (k (s.facing rest (log ++ io.map Prod.snd)))

/-- A run from `s` makes exactly the exchanges `io` and ends in `t`; the answers and the log that `s` and `t` have
of their own do not count. -/
def Performs (s : State) (io : Io) (t : State) : Prop :=
  ∀ (rest : List (Option Word)) (log : List IoEvent), ∃ k,
    Host.Core.run core k (s.facing (io.map (fun x => some x.1) ++ rest) log) =
      .next (t.facing rest (log ++ io.map Prod.snd))

section Facing
variable (s : State) (q : SeqState) (answers : List (Option Word)) (log : List IoEvent)

@[simp] theorem facing_seq : (s.facing answers log).seq = s.seq := rfl
@[simp] theorem facing_params : (s.facing answers log).params = s.params := rfl
@[simp] theorem facing_minMicros : (s.facing answers log).minMicros = s.minMicros := rfl
@[simp] theorem facing_lastShow : (s.facing answers log).lastShow = s.lastShow := rfl
@[simp] theorem facing_pwrEn : (s.facing answers log).pwrEn = s.pwrEn := rfl
@[simp] theorem facing_pwrData : (s.facing answers log).pwrData = s.pwrData := rfl
@[simp] theorem facing_fps : (s.facing answers log).fps = s.fps := rfl
@[simp] theorem facing_nFrames : (s.facing answers log).nFrames = s.nFrames := rfl
@[simp] theorem facing_frameCnt : (s.facing answers log).frameCnt = s.frameCnt := rfl
@[simp] theorem facing_enabled (i : Nat) : (s.facing answers log).enabled i = s.enabled i := rfl
@[simp] theorem facing_token (i : Nat) : (s.facing answers log).token i = s.token i := rfl

@[simp] theorem goto_enabled (i : Nat) : (s.goto q).enabled i = s.enabled i := rfl
@[simp] theorem goto_token (i : Nat) : (s.goto q).token i = s.token i := rfl

@[simp] theorem facing_transact (r : Word) (e : Word → IoEvent) (k : Word → State → State) :
    (s.facing (some r :: answers) log).transact e k = k r (s.facing answers (log ++ [e r])) := rfl

@[simp] theorem facing_ctl (r : Word) (kind : CtlKind) (i : Nat) (a : Word) (b : Byte) (k : Word → State → State) :
    (s.facing (some r :: answers) log).ctl kind i a b k =
      k r (s.facing answers (log ++ [.ctl kind.number (BitVec.ofNat 8 i) a b r])) := rfl

@[simp] theorem facing_event (r : Word) (code : EvtCode) (k : State → State) :
    (s.facing (some r :: answers) log).event code k = k (s.facing answers (log ++ [.evt code.number])) := rfl

end Facing

section Exchange
variable {s t u : State} {q : SeqState} {io io' : Io} {k : State → State}

/-! ### Single steps -/

/-- A state in which SEQ does not idle takes a step of SEQ. -/
theorem steps_of_seqStep (hr : s.resetIn = [])
    (h : ∀ rest log, seqStep ((s.goto q).facing (io.map (fun x => some x.1) ++ rest) log) =
      k ((s.goto q).facing rest (log ++ io.map Prod.snd))) (hq : q ≠ .idle := by simp) : Steps (s.goto q) io k := by
  intro rest log
  rw [← h]
  exact step_running hq hr

theorem goto_self (hs : s.seq = q) : s.goto q = s := by
  simp [State.goto, ← hs]

/-- The step of a state whose environment has the step's answers ready. -/
theorem Steps.step_eq {rest : List (Option Word)} (h : Steps (s.goto q) io k) (hs : s.seq = q)
    (ha : s.answers = io.map (fun x => some x.1) ++ rest) :
    step s = .next (k (s.facing rest (s.log ++ io.map Prod.snd))) := by
  rw [goto_self hs] at h
  rw [← h rest s.log, ← ha]
  rfl

/-- The step of a state that exchanges nothing. -/
theorem Steps.step_eq_silent (h : Steps (s.goto q) [] k) (hs : s.seq = q) : step s = .next (k s) := by
  rw [h.step_eq hs (rest := s.answers) rfl]
  simp [State.facing]

/-! ### Runs -/

theorem Performs.refl (s : State) : Performs s [] s := fun rest log => ⟨0, by simp [Host.Core.run]⟩

/-- A step is a run. -/
theorem Steps.performs (h : Steps s io k) (hk : ∀ answers log, k (s.facing answers log) = t.facing answers log) :
    Performs s io t :=
  fun rest log => ⟨1, by rw [run_succ (h rest log), hk]; rfl⟩

/-- Runs compose, and so do their exchanges. -/
theorem Performs.trans (h : Performs s io t) (h' : Performs t io' u) : Performs s (io ++ io') u := by
  intro rest log
  obtain ⟨j, hj⟩ := h (io'.map (fun x => some x.1) ++ rest) log
  obtain ⟨k, hk⟩ := h' rest (log ++ io.map Prod.snd)
  simp only [List.map_append, List.append_assoc] at hj hk ⊢
  exact ⟨j + k, run_trans hj hk⟩

/-- A run goes on with a step that exchanges nothing. -/
theorem Performs.then_silent (h : Performs s io t) (h' : Steps t [] k)
    (hk : ∀ answers log, k (t.facing answers log) = u.facing answers log) : Performs s io u := by
  simpa using h.trans (h'.performs hk)

/-- A run that ends with a step. -/
theorem Performs.run_then_step {rest : List (Option Word)} (h : Performs s io t) (h' : Steps t io' k)
    (ha : s.answers = (io ++ io').map (fun x => some x.1) ++ rest) :
    ∃ n, Host.Core.run core n s = .next (k (t.facing rest (s.log ++ (io ++ io').map Prod.snd))) := by
  obtain ⟨j, hj⟩ := h (io'.map (fun x => some x.1) ++ rest) s.log
  have hlast := run_succ (h' rest (s.log ++ io.map Prod.snd)) 0
  simp only [List.map_append, List.append_assoc] at ha hj hlast ⊢
  rw [← ha] at hj
  exact ⟨j + 1, run_trans hj hlast⟩

/-- The run of a state whose environment has the run's answers ready. -/
theorem Performs.run_eq {rest : List (Option Word)} (h : Performs s io t)
    (ha : s.answers = io.map (fun x => some x.1) ++ rest) :
    ∃ n, Host.Core.run core n s = .next (t.facing rest (s.log ++ io.map Prod.snd)) := by
  have hrun := h rest s.log
  rwa [← ha] at hrun

/-- A pass over controllers: what is performed for each of them, in order. -/
theorem performs_walk {stage : Nat → State} {pass : Nat → CtlAnswers → Io} {cs : List CtlAnswers} {i : Nat}
    (h : ∀ j c, cs[j]? = some c → Performs (stage (i + j)) (pass (i + j) c) (stage (i + j + 1))) :
    Performs (stage i) (walkIo pass i cs) (stage (i + cs.length)) := by
  induction cs generalizing i with
  | nil => exact Performs.refl _
  | cons c cs ih =>
    have hfirst : Performs (stage i) (pass i c) (stage (i + 1)) := h 0 c rfl
    have hothers : Performs (stage (i + 1)) (walkIo pass (i + 1) cs) (stage (i + 1 + cs.length)) :=
      ih fun j c' hc' => by simpa [Nat.add_assoc, Nat.add_comm 1] using h (j + 1) c' hc'
    rw [List.length_cons, Nat.add_comm cs.length 1, ← Nat.add_assoc]
    exact hfirst.trans hothers

end Exchange

end Sys2Proof.Machine
end

section
/-! PROOF. The steps of a frame, one lemma for each state of SEQ and branch of its rule, and the commands that set
the rate (O44, O46, O47, O49, O51, O52; 42_sequencer.md R145 to R158, R162, R163). -/

namespace Sys2Proof.Machine

section Steps
variable {s : State} {f : Frame} {n i : Nat} (hr : s.resetIn = [])
include hr

/-! ### Before the passes (R147 to R150) -/

theorem steps_f1_event (hm : s.params.manualEvents = false) (r : Word) :
    Steps (s.goto (.f1 f)) [(r, .evt 1)] (·.goto (.f2w f)) :=
  steps_of_seqStep hr fun _ _ => by simp [seqStep, stepF1, hm, EvtCode.number]

theorem steps_f1_manual (hm : s.params.manualEvents = true) :
    Steps (s.goto (.f1 f)) [] (·.goto (.f2w f)) :=
  steps_of_seqStep hr fun _ _ => by simp [seqStep, stepF1, hm]

theorem steps_f2w_wait (hm : s.minMicros ≠ 0) {r : Word}
    (hw : (r - s.lastShow).toNat < s.minMicros.toNat) : Steps (s.goto (.f2w f)) [(r, .us r)] (·.goto (.f2w f)) :=
  steps_of_seqStep hr fun _ _ => by
    simp [seqStep, stepF2w, show s.minMicros ≠ 0#32 from hm, hw, -BitVec.toNat_sub]

theorem steps_f2w_reached (hm : s.minMicros ≠ 0) {r : Word}
    (hw : ¬ (r - s.lastShow).toNat < s.minMicros.toNat) : Steps (s.goto (.f2w f)) [(r, .us r)] (·.goto (.f2s f)) :=
  steps_of_seqStep hr fun _ _ => by
    simp [seqStep, stepF2w, show s.minMicros ≠ 0#32 from hm, hw, -BitVec.toNat_sub]

theorem steps_f2w_noFloor (hm : s.minMicros = 0) :
    Steps (s.goto (.f2w f)) [] (·.goto (.f2s f)) :=
  steps_of_seqStep hr fun _ _ => by simp [seqStep, stepF2w, hm]

theorem steps_f2s (r : Word) :
    Steps (s.goto (.f2s f)) [(r, .us r)] fun s => { s with lastShow := r }.goto (.f3 f) :=
  steps_of_seqStep hr fun _ _ => by simp [seqStep, stepF2s]

theorem steps_f3_power (hp : s.pwrEn = true) (r : Word) :
    Steps (s.goto (.f3 f)) [(r, .pwr f.scale s.pwrData (r.setWidth 8))] fun s =>
      s.goto (.fa { f with scale := r.setWidth 8 } s.walkBound 0) :=
  steps_of_seqStep hr fun _ _ => by simp [seqStep, stepF3, hp]

theorem steps_f3_noPower (hp : s.pwrEn = false) :
    Steps (s.goto (.f3 f)) [] fun s => s.goto (.fa f s.walkBound 0) :=
  steps_of_seqStep hr fun _ _ => by simp [seqStep, stepF3, hp]

/-! ### Pass A (R151, R152) -/

theorem steps_fa (hi : i < n) (r : Word) :
    Steps (s.goto (.fa f n i)) [ctlIo 0 i 0 0 r] fun s =>
      if r.getLsbD 0 then (s.setEnabled i true).goto (.faSize f n i)
      else ((s.setEnabled i false).setToken i 0).goto (.faDither f n i) :=
  steps_of_seqStep hr fun _ _ => by simp [seqStep, stepFa, hi, ctlIo, CtlKind.number]

theorem steps_fa_end (hi : ¬ i < n) :
    Steps (s.goto (.fa f n i)) [] (·.goto (.fb f n 0)) :=
  steps_of_seqStep hr fun _ _ => by simp [seqStep, stepFa, hi]

theorem steps_faSize (r : Word) :
    Steps (s.goto (.faSize f n i)) [ctlIo 1 i 0 0 r] (·.goto (.faBegin f n i (r.setWidth 16))) :=
  steps_of_seqStep hr fun _ _ => by simp [seqStep, stepFaSize, ctlIo, CtlKind.number]

theorem steps_faBegin {size : Half} (r : Word) :
    Steps (s.goto (.faBegin f n i size)) [ctlIo 2 i (size.setWidth 32) 0 r] fun s =>
      (s.setToken i r).goto (.faDither f n i) :=
  steps_of_seqStep hr fun _ _ => by simp [seqStep, stepFaBegin, ctlIo, CtlKind.number]

theorem steps_faDither_gate (hd : s.fps.toNat < 100) (r : Word) :
    Steps (s.goto (.faDither f n i)) [ctlIo 3 i 0 0 r] (·.goto (.fa f n (i + 1))) :=
  steps_of_seqStep hr fun _ _ => by simp [seqStep, stepFaDither, hd, ctlIo, CtlKind.number]

theorem steps_faDither_noGate (hd : ¬ s.fps.toNat < 100) :
    Steps (s.goto (.faDither f n i)) [] (·.goto (.fa f n (i + 1))) :=
  steps_of_seqStep hr fun _ _ => by simp [seqStep, stepFaDither, hd]

/-! ### Passes B and C (R154, R155) -/

theorem steps_fb_leds (hi : i < n) (he : s.enabled i = true) (hk : f.kind = .leds) (r : Word) :
    Steps (s.goto (.fb f n i)) [ctlIo 4 i 0 f.scale r] (·.goto (.fb f n (i + 1))) :=
  steps_of_seqStep hr fun _ _ => by simp [seqStep, stepFb, hi, he, hk, ctlIo, CtlKind.number]

theorem steps_fb_color (hi : i < n) (he : s.enabled i = true) (hk : f.kind = .color) (r : Word) :
    Steps (s.goto (.fb f n i)) [ctlIo 5 i (f.color.setWidth 32) f.scale r] (·.goto (.fb f n (i + 1))) :=
  steps_of_seqStep hr fun _ _ => by simp [seqStep, stepFb, hi, he, hk, ctlIo, CtlKind.number]

theorem steps_fb_disabled (hi : i < n) (he : s.enabled i = false) :
    Steps (s.goto (.fb f n i)) [] (·.goto (.fb f n (i + 1))) :=
  steps_of_seqStep hr fun _ _ => by simp [seqStep, stepFb, hi, he]

theorem steps_fb_end (hi : ¬ i < n) :
    Steps (s.goto (.fb f n i)) [] (·.goto (.fc f n 0)) :=
  steps_of_seqStep hr fun _ _ => by simp [seqStep, stepFb, hi]

theorem steps_fc_enabled (hi : i < n) (he : s.enabled i = true) (r : Word) :
    Steps (s.goto (.fc f n i)) [ctlIo 6 i (s.token i) 0 r] (·.goto (.fc f n (i + 1))) :=
  steps_of_seqStep hr fun _ _ => by simp [seqStep, stepFc, hi, he, ctlIo, CtlKind.number]

theorem steps_fc_disabled (hi : i < n) (he : s.enabled i = false) :
    Steps (s.goto (.fc f n i)) [] (·.goto (.fc f n (i + 1))) :=
  steps_of_seqStep hr fun _ _ => by simp [seqStep, stepFc, hi, he]

theorem steps_fc_end (hi : ¬ i < n) :
    Steps (s.goto (.fc f n i)) [] (·.goto (.f7 f)) :=
  steps_of_seqStep hr fun _ _ => by simp [seqStep, stepFc, hi]

/-! ### After the passes (R157, R158) -/

theorem steps_f7_estimate (hd : s.nFrames.toNat ≤ s.frameCnt.toNat + 1) (r : Word) :
    Steps (s.goto (.f7 f)) [(r, .ms r)] fun s => (s.estimate r).goto (.f8a f) :=
  steps_of_seqStep hr fun _ _ => by simp [seqStep, stepF7, hd]

theorem steps_f7_count (hd : ¬ s.nFrames.toNat ≤ s.frameCnt.toNat + 1) :
    Steps (s.goto (.f7 f)) [] fun s => { s with frameCnt := s.frameCnt + 1 }.goto (.f8a f) :=
  steps_of_seqStep hr fun _ _ => by simp [seqStep, stepF7, hd]

theorem steps_f8a (r : Word) :
    Steps (s.goto (.f8a f)) [(r, .evt 2)] (·.goto (.f8b f)) :=
  steps_of_seqStep hr fun _ _ => by simp [seqStep, stepF8a, EvtCode.number]

theorem steps_f8b_event (hm : s.params.manualEvents = false) (r : Word) :
    Steps (s.goto (.f8b f)) [(r, .evt 3)] (·.finishFrame f) :=
  steps_of_seqStep hr fun _ _ => by simp [seqStep, stepF8b, hm, EvtCode.number]

theorem steps_f8b_manual (hm : s.params.manualEvents = true) :
    Steps (s.goto (.f8b f)) [] (·.finishFrame f) :=
  steps_of_seqStep hr fun _ _ => by simp [seqStep, stepF8b, hm]

end Steps

/-! ### The statements -/

/-- A modular difference of samples as claims write it (00_scope.md R8). -/
theorem toNat_sub_eq (x y : Word) : (x - y).toNat = (x.toNat + 2 ^ 32 - y.toNat) % 2 ^ 32 := by
  rw [BitVec.toNat_sub]
  omega

/-- A period is a word: `SETRATE` and `SETRATEC` lose no bit of it. -/
theorem periodOf_lt (r : Nat) : periodOf r < 2 ^ 32 :=
  (Nat.div_le_self 1000000 r).trans_lt (by decide)

/-- Settles O44: for `r = 0` the rule's own case, else a number below `2^32`, which `MINMICROS` holds as it is. -/
theorem rateCommands : Obligations.RateCommands := by
  intro s ra
  refine ⟨decodeWord_wordR .setrate rfl, decodeWord_wordR .setratec rfl, ⟨_, rfl, ?_, rfl⟩,
    ⟨_, rfl, ?_, rfl⟩⟩
  all_goals by_cases hrate : (s.reg ra).toNat = 0
  · simp [State.u32, hrate]
  · simp only [respond_minMicros, State.u32, hrate, ne_eq, not_false_eq_true, if_true, if_false]
    exact Nat.mod_eq_of_lt (periodOf_lt _)
  · simp [State.u32, hrate]
  · simp only [respond_minMicros, State.u32, hrate, ne_eq, not_false_eq_true, if_true, if_false]
    exact Nat.mod_eq_of_lt (max_lt s.minMicros.isLt (periodOf_lt _))

/-- A frame of a `SHOW` command ends with its response (R145). -/
theorem finishFrame_show (s : State) {f : Frame} (hd : f.delay = none) :
    s.finishFrame f = (s.goto .idle).respond 0 := by
  simp only [State.finishFrame, hd]

/-- A frame inside `DELAY` goes back into the loop (R145). -/
theorem finishFrame_delay (s : State) {f : Frame} {d : DelayCtx} (hd : f.delay = some d) :
    s.finishFrame f = s.goto (.delayYield d) := by
  simp only [State.finishFrame, hd]

/-- Settles O46: the steps of `F1`, `F8a` and `F8b`; a frame ends as its `delay` says. -/
theorem frameEvents : Obligations.FrameEvents := by
  intro s f r rest ⟨ha, hr⟩
  refine ⟨fun hs hm => (steps_f1_event hr hm r).step_eq hs ha,
    fun hs hm => (steps_f1_manual hr hm).step_eq_silent hs,
    fun hs => (steps_f8a hr r).step_eq hs ha, fun hs hd hm => ?_, fun hs hd hm => ?_, fun d hs hd hm => ?_,
    fun d hs hd hm => ?_⟩
  · rw [(steps_f8b_event hr hm r).step_eq hs ha, finishFrame_show _ hd]
    simp [State.facing, State.goto, State.respond, State.record]
  · rw [(steps_f8b_manual hr hm).step_eq_silent hs, finishFrame_show _ hd]
    rfl
  · rw [(steps_f8b_event hr hm r).step_eq hs ha, finishFrame_delay _ hd]
    rfl
  · rw [(steps_f8b_manual hr hm).step_eq_silent hs, finishFrame_delay _ hd]
    rfl

/-- Settles O47: the steps of `F2w` and `F2s`. -/
theorem floorAndStamp : Obligations.FloorAndStamp := by
  intro s f r rest ⟨ha, hr⟩
  refine ⟨fun hs hm => (steps_f2w_noFloor hr hm).step_eq_silent hs, fun hs hm => ?_,
    fun hs => (steps_f2s hr r).step_eq hs ha⟩
  rw [← toNat_sub_eq]
  by_cases hw : (r - s.lastShow).toNat < s.minMicros.toNat
  · rw [if_pos hw]
    exact (steps_f2w_wait hr hm hw).step_eq hs ha
  · rw [if_neg hw]
    exact (steps_f2w_reached hr hm hw).step_eq hs ha

/-- Settles O49: the step of `F3`, with the governor and without. -/
theorem powerScalingStep : Obligations.PowerScalingStep := by
  intro s f r rest ⟨ha, hr⟩ hs
  rw [ofNat_zextOf]
  exact ⟨fun hp => (steps_f3_power hr hp r).step_eq hs ha, fun hp => (steps_f3_noPower hr hp).step_eq_silent hs⟩

/-- Settles O51: the steps of `FB` and `FC` below the walk bound. -/
theorem passBAndCOfOneController : Obligations.PassBAndCOfOneController := by
  intro s f n i r rest ⟨ha, hr⟩ hi
  refine ⟨fun hs he => ?_, fun hs he => (steps_fb_disabled hr hi he).step_eq_silent hs,
    fun hs he => (steps_fc_enabled hr hi he r).step_eq hs ha,
    fun hs he => (steps_fc_disabled hr hi he).step_eq_silent hs⟩
  rw [BitVec.ofNat_toNat]
  cases hk : f.kind with
  | leds => exact (steps_fb_leds hr hi he hk r).step_eq hs ha
  | color => exact (steps_fb_color hr hi he hk r).step_eq hs ha

/-- Settles O52: the step of `F7`, with an estimate and without. -/
theorem fpsEstimatorStep : Obligations.FpsEstimatorStep := by
  intro s f r rest ⟨ha, hr⟩ hs _ d
  refine ⟨fun hd => ?_, fun hd => ?_⟩
  · rw [(steps_f7_estimate hr hd r).step_eq hs ha]
    simp only [d, ← toNat_sub_eq]
    rfl
  · rw [(steps_f7_count hr (Nat.not_le_of_lt hd)).step_eq_silent hs, BitVec.ofNat_add, BitVec.ofNat_toNat]
    rfl

end Sys2Proof.Machine
end

section
/-! PROOF. A frame from its first step to its last, part by part, and the commands that run one (O50, O55, O56;
42_sequencer.md R146, R151 to R161, R164). -/

namespace Sys2Proof.Machine

/-- `LASTSHOW` with the stamp (42_sequencer.md R149). -/
def State.stamped (s : State) (t : Word) : State := { s with lastShow := t }

/-! ### The arrays during the passes -/

/-- `TOK[]` and `ENL[]` with what controller `i` answered (42_sequencer.md R151). -/
def State.latch (s : State) (i : Nat) (c : CtlAnswers) : State :=
  (s.setEnabled i c.on).setToken i (if c.on then c.tokenR else 0)

/-- `TOK[]` and `ENL[]` with what the first controllers answered. -/
def State.latched (s : State) (cs : List CtlAnswers) : State :=
  { s with
    tok := (cs.map fun c => if c.on then c.tokenR else 0) ++ s.tok.drop cs.length
    enl := (cs.map fun c => c.on) ++ s.enl.drop cs.length }

/-- Writing the entry after those written already. -/
theorem set_map_append_drop {α β : Type} (g : α → β) (cs : List α) (c : α) {l : List β}
    (h : cs.length < l.length) :
    (cs.map g ++ l.drop cs.length).set cs.length (g c) = (cs ++ [c]).map g ++ l.drop (cs ++ [c]).length := by
  rw [List.set_append_right _ _ (by simp), List.length_map, Nat.sub_self, List.drop_eq_getElem_cons h,
    List.set_cons_zero]
  simp

theorem latched_nil (s : State) : s.latched [] = s := by
  simp [State.latched]

/-- Latching one controller more. -/
theorem latch_latched {s : State} {cs : List CtlAnswers} (c : CtlAnswers) (htok : cs.length < s.tok.length)
    (henl : cs.length < s.enl.length) : (s.latched cs).latch cs.length c = s.latched (cs ++ [c]) := by
  have htoks := set_map_append_drop (fun c : CtlAnswers => if c.on then c.tokenR else 0) cs c htok
  have henls := set_map_append_drop (fun c : CtlAnswers => c.on) cs c henl
  simp only [State.latched, State.latch, State.setToken, State.setEnabled, htoks, henls]

/-- The arrays as pass A goes on to the next controller. -/
theorem latch_latched_take {s : State} {cs : List CtlAnswers} {j : Nat} {c : CtlAnswers} (hc : cs[j]? = some c)
    (htok : cs.length ≤ s.tok.length) (henl : cs.length ≤ s.enl.length) :
    (s.latched (cs.take j)).latch j c = s.latched (cs.take (j + 1)) := by
  obtain ⟨hj, rfl⟩ := List.getElem?_eq_some_iff.1 hc
  have hlen : (cs.take j).length = j := List.length_take_of_le hj.le
  have hnext := latch_latched (s := s) (cs := cs.take j) cs[j] (by omega) (by omega)
  rwa [hlen, List.take_append_getElem] at hnext

theorem enabled_latched {s : State} {cs : List CtlAnswers} {j : Nat} {c : CtlAnswers} (hc : cs[j]? = some c) :
    (s.latched cs).enabled j = c.on := by
  obtain ⟨hj, rfl⟩ := List.getElem?_eq_some_iff.1 hc
  simp [State.latched, State.enabled, List.getElem?_append, hj]

theorem token_latched {s : State} {cs : List CtlAnswers} {j : Nat} {c : CtlAnswers} (hc : cs[j]? = some c)
    (hon : c.on = true) : (s.latched cs).token j = c.tokenR := by
  obtain ⟨hj, rfl⟩ := List.getElem?_eq_some_iff.1 hc
  simp [State.latched, State.token, List.getElem?_append, hj, hon]

/-! ### The estimator's registers -/

/-- What the FPS estimator leaves, `now` being its sample if it takes one (42_sequencer.md R158). -/
def State.counted (s : State) (now : Word) : State :=
  if estimateDue s then s.estimate now else { s with frameCnt := s.frameCnt + 1 }

theorem elapsedMs_eq (s : State) (now : Word) :
    elapsedMs s now = if (now - s.lastMark).toNat = 0 then 1 else (now - s.lastMark).toNat := by
  rw [elapsedMs, ← toNat_sub_eq]
  split <;> omega

/-- The estimator's registers as claims write them. -/
theorem counted_eq (s : State) (now : Word) :
    s.counted now = { s with
      fps := if estimateDue s then BitVec.ofNat 32 (s.nFrames.toNat * 1000 / elapsedMs s now) else s.fps
      frameCnt := if estimateDue s then 0 else BitVec.ofNat 16 (s.frameCnt.toNat + 1)
      lastMark := if estimateDue s then now else s.lastMark } := by
  unfold State.counted
  cases estimateDue s with
  | true =>
    rw [elapsedMs_eq]
    rfl
  | false =>
    rw [BitVec.ofNat_add, BitVec.ofNat_toNat]
    rfl

section Parts
variable {s : State} {f : Frame} {n i : Nat} (hr : s.resetIn = [])
include hr

/-! ### Before the passes (R147 to R150) -/

theorem performs_f1 (f : Frame) (ack : Word) :
    Performs (s.goto (.f1 f)) (if s.params.manualEvents then [] else [(ack, .evt 1)]) (s.goto (.f2w f)) := by
  cases hm : s.params.manualEvents with
  | true => exact (steps_f1_manual hr hm).performs fun _ _ => rfl
  | false => exact (steps_f1_event hr hm ack).performs fun _ _ => rfl

/-- Samples that fall short of the floor leave SEQ in the wait. -/
theorem performs_f2w_waits (f : Frame) (hm : s.minMicros ≠ 0) {waits : List Word}
    (hw : ∀ t ∈ waits, (t - s.lastShow).toNat < s.minMicros.toNat) :
    Performs (s.goto (.f2w f)) (waits.map fun t => (t, .us t)) (s.goto (.f2w f)) := by
  induction waits with
  | nil => exact Performs.refl _
  | cons t ts ih =>
    obtain ⟨hfirst, hothers⟩ := List.forall_mem_cons.1 hw
    have hwait : Performs (s.goto (.f2w f)) [(t, .us t)] (s.goto (.f2w f)) :=
      (steps_f2w_wait hr hm hfirst).performs fun _ _ => rfl
    exact hwait.trans (ih hothers)

theorem performs_f2w (f : Frame) {a : FrameAnswers} (hfit : a.fit s) :
    Performs (s.goto (.f2w f)) (if s.minMicros = 0 then [] else (a.waits ++ [a.reached]).map fun t => (t, .us t))
      (s.goto (.f2s f)) := by
  split
  next hm => exact (steps_f2w_noFloor hr hm).performs fun _ _ => rfl
  next hm =>
    obtain ⟨hwaits, hreached⟩ := hfit.2 hm
    rw [List.map_append]
    exact (performs_f2w_waits hr f hm hwaits).trans
      ((steps_f2w_reached hr hm (Nat.not_lt_of_le hreached)).performs fun _ _ => rfl)

theorem performs_f2s (f : Frame) (t : Word) :
    Performs (s.goto (.f2s f)) [(t, .us t)] ((s.stamped t).goto (.f3 f)) :=
  (steps_f2s hr t).performs fun _ _ => rfl

theorem performs_f3 (f : Frame) {a : FrameAnswers} (hn : a.ctls.length = s.walkBound) :
    Performs (s.goto (.f3 f)) (if s.pwrEn then [(a.power, .pwr f.scale s.pwrData (a.power.setWidth 8))] else [])
      (s.goto (.fa { f with scale := scaleAfter s f a } a.ctls.length 0)) := by
  rw [hn]
  unfold scaleAfter
  cases hp : s.pwrEn with
  | true => exact (steps_f3_power hr hp a.power).performs fun _ _ => rfl
  | false => exact (steps_f3_noPower hr hp).performs fun _ _ => rfl

/-! ### The passes (R151 to R155) -/

theorem performs_faDither (r : Word) :
    Performs (s.goto (.faDither f n i)) (if decide (s.fps.toNat < 100) then [ctlIo 3 i 0 0 r] else [])
      (s.goto (.fa f n (i + 1))) := by
  by_cases hd : s.fps.toNat < 100
  · rw [decide_eq_true hd]
    exact (steps_faDither_gate hr hd r).performs fun _ _ => rfl
  · rw [decide_eq_false hd]
    exact (steps_faDither_noGate hr hd).performs fun _ _ => rfl

/-- Pass A of an enabled controller up to the dither gate. -/
theorem performs_fa_enabled (hi : i < n) {c : CtlAnswers} (hon : c.on = true) :
    Performs (s.goto (.fa f n i))
      [ctlIo 0 i 0 0 c.enabledR, ctlIo 1 i 0 0 c.sizeR, ctlIo 2 i ((c.sizeR.setWidth 16).setWidth 32) 0 c.tokenR]
      ((s.latch i c).goto (.faDither f n i)) := by
  have hask : Performs (s.goto (.fa f n i)) [ctlIo 0 i 0 0 c.enabledR] ((s.setEnabled i true).goto (.faSize f n i)) :=
    (steps_fa hr hi c.enabledR).performs fun _ _ => if_pos hon
  have hsize : Performs ((s.setEnabled i true).goto (.faSize f n i)) [ctlIo 1 i 0 0 c.sizeR]
      ((s.setEnabled i true).goto (.faBegin f n i (c.sizeR.setWidth 16))) :=
    (steps_faSize (s := s.setEnabled i true) hr c.sizeR).performs fun _ _ => rfl
  have hbegin : Performs ((s.setEnabled i true).goto (.faBegin f n i (c.sizeR.setWidth 16)))
      [ctlIo 2 i ((c.sizeR.setWidth 16).setWidth 32) 0 c.tokenR] ((s.latch i c).goto (.faDither f n i)) :=
    (steps_faBegin (s := s.setEnabled i true) hr c.tokenR).performs fun _ _ => by rw [State.latch, hon]; rfl
  exact (hask.trans hsize).trans hbegin

/-- Pass A of a disabled controller up to the dither gate. -/
theorem performs_fa_disabled (hi : i < n) {c : CtlAnswers} (hon : c.on = false) :
    Performs (s.goto (.fa f n i)) [ctlIo 0 i 0 0 c.enabledR] ((s.latch i c).goto (.faDither f n i)) := by
  have hoff : ¬ c.enabledR.getLsbD 0 = true := Bool.eq_false_iff.1 hon
  exact (steps_fa hr hi c.enabledR).performs fun _ _ => by rw [if_neg hoff, State.latch, hon]; rfl

/-- Pass A of one controller: what it answers is latched. -/
theorem performs_fa (hi : i < n) (c : CtlAnswers) :
    Performs (s.goto (.fa f n i)) (passAIo (decide (s.fps.toNat < 100)) i c)
      ((s.latch i c).goto (.fa f n (i + 1))) := by
  have hdither : Performs ((s.latch i c).goto (.faDither f n i))
      (if decide (s.fps.toNat < 100) then [ctlIo 3 i 0 0 c.ditherR] else []) ((s.latch i c).goto (.fa f n (i + 1))) :=
    performs_faDither (s := s.latch i c) hr c.ditherR
  unfold passAIo
  cases hon : c.on with
  | true => exact (performs_fa_enabled hr hi hon).trans hdither
  | false => exact (performs_fa_disabled hr hi hon).trans hdither

/-- Pass A of every controller. -/
theorem performs_passA (f : Frame) {cs : List CtlAnswers} (htok : cs.length ≤ s.tok.length)
    (henl : cs.length ≤ s.enl.length) :
    Performs (s.goto (.fa f cs.length 0)) (walkIo (passAIo (decide (s.fps.toNat < 100))) 0 cs)
      ((s.latched cs).goto (.fb f cs.length 0)) := by
  have hwalk := performs_walk (stage := fun j => (s.latched (cs.take j)).goto (.fa f cs.length j)) (i := 0)
    (pass := passAIo (decide (s.fps.toNat < 100))) (cs := cs) fun j c hc => by
      have hj : j < cs.length := (List.getElem?_eq_some_iff.1 hc).1
      rw [Nat.zero_add, ← latch_latched_take hc htok henl]
      exact performs_fa (s := s.latched (cs.take j)) hr hj c
  rw [Nat.zero_add, List.take_length, List.take_zero, latched_nil] at hwalk
  exact hwalk.then_silent (steps_fa_end (s := s.latched cs) hr (Nat.lt_irrefl _)) fun _ _ => rfl

/-- Pass B of one controller. -/
theorem performs_fb (hi : i < n) {c : CtlAnswers} (he : s.enabled i = c.on) :
    Performs (s.goto (.fb f n i)) (passBIo f f.scale i c) (s.goto (.fb f n (i + 1))) := by
  unfold passBIo
  cases hon : c.on with
  | true =>
    cases hk : f.kind with
    | leds => exact (steps_fb_leds hr hi (he.trans hon) hk c.emitR).performs fun _ _ => rfl
    | color => exact (steps_fb_color hr hi (he.trans hon) hk c.emitR).performs fun _ _ => rfl
  | false => exact (steps_fb_disabled hr hi (he.trans hon)).performs fun _ _ => rfl

/-- Pass C of one controller. -/
theorem performs_fc (hi : i < n) {c : CtlAnswers} (he : s.enabled i = c.on)
    (ht : c.on = true → s.token i = c.tokenR) :
    Performs (s.goto (.fc f n i)) (passCIo i c) (s.goto (.fc f n (i + 1))) := by
  unfold passCIo
  cases hon : c.on with
  | true =>
    rw [← ht hon]
    exact (steps_fc_enabled hr hi (he.trans hon) c.endR).performs fun _ _ => rfl
  | false => exact (steps_fc_disabled hr hi (he.trans hon)).performs fun _ _ => rfl

/-- Pass B of every controller. -/
theorem performs_passB (f : Frame) {cs : List CtlAnswers} (he : ∀ j c, cs[j]? = some c → s.enabled j = c.on) :
    Performs (s.goto (.fb f cs.length 0)) (walkIo (passBIo f f.scale) 0 cs) (s.goto (.fc f cs.length 0)) := by
  have hwalk := performs_walk (stage := fun j => s.goto (.fb f cs.length j)) (i := 0) (pass := passBIo f f.scale)
    (cs := cs) fun j c hc => by
      rw [Nat.zero_add]
      exact performs_fb hr (List.getElem?_eq_some_iff.1 hc).1 (he j c hc)
  rw [Nat.zero_add] at hwalk
  exact hwalk.then_silent (steps_fb_end hr (Nat.lt_irrefl _)) fun _ _ => rfl

/-- Pass C of every controller. -/
theorem performs_passC (f : Frame) {cs : List CtlAnswers} (he : ∀ j c, cs[j]? = some c → s.enabled j = c.on)
    (ht : ∀ j c, cs[j]? = some c → c.on = true → s.token j = c.tokenR) :
    Performs (s.goto (.fc f cs.length 0)) (walkIo passCIo 0 cs) (s.goto (.f7 f)) := by
  have hwalk := performs_walk (stage := fun j => s.goto (.fc f cs.length j)) (i := 0) (pass := passCIo)
    (cs := cs) fun j c hc => by
      rw [Nat.zero_add]
      exact performs_fc hr (List.getElem?_eq_some_iff.1 hc).1 (he j c hc) (ht j c hc)
  rw [Nat.zero_add] at hwalk
  exact hwalk.then_silent (steps_fc_end hr (Nat.lt_irrefl _)) fun _ _ => rfl

/-! ### After the passes (R157, R158) -/

theorem performs_f7 (f : Frame) (now : Word) :
    Performs (s.goto (.f7 f)) (if estimateDue s then [(now, .ms now)] else []) ((s.counted now).goto (.f8a f)) := by
  unfold State.counted
  cases hd : estimateDue s with
  | true => exact (steps_f7_estimate hr (of_decide_eq_true hd) now).performs fun _ _ => rfl
  | false => exact (steps_f7_count hr (of_decide_eq_false hd)).performs fun _ _ => rfl

theorem performs_f8a (f : Frame) (ack : Word) : Performs (s.goto (.f8a f)) [(ack, .evt 2)] (s.goto (.f8b f)) :=
  (steps_f8a hr ack).performs fun _ _ => rfl

/-- The last step of a frame. -/
theorem steps_f8b (f : Frame) (ack : Word) :
    Steps (s.goto (.f8b f)) (if s.params.manualEvents then [] else [(ack, .evt 3)]) (·.finishFrame f) := by
  cases hm : s.params.manualEvents with
  | true => exact steps_f8b_manual hr hm
  | false => exact steps_f8b_event hr hm ack

end Parts

/-! ### The whole frame -/

/-- What a frame changes in the block itself (42_sequencer.md R149, R151, R158). -/
def State.shown (s : State) (a : FrameAnswers) : State :=
  ((s.stamped a.stamp).latched a.ctls).counted a.now

/-- A frame ends, after its last exchange, as claims say. -/
theorem finishFrame_shown (s : State) (f : Frame) (a : FrameAnswers) (rest : List (Option Word)) (scale : Byte)
    (q : SeqState) : (((s.shown a).goto q).facing rest (s.log ++ (frameIo s f a).map Prod.snd)).finishFrame
      { f with scale := scale } = frameEnd s f a rest := by
  rw [State.shown, counted_eq]
  unfold State.finishFrame frameEnd
  cases f.delay with
  | none => rfl
  | some d =>
    simp only [List.append_nil]
    rfl

/-- Settles O55: the parts of the frame, one after the other, and its last step. -/
theorem frameRunsToItsEnd : Obligations.FrameRunsToItsEnd := by
  intro s f a rest hs hr htok henl _ hfit ha
  have hwalked : a.ctls.length ≤ s.params.maxControllers := hfit.1.trans_le (Nat.min_le_right ..)
  have hrest : (s.shown a).resetIn = [] := by rw [State.shown, counted_eq]; exact hr
  have hparams : (s.shown a).params = s.params := by rw [State.shown, counted_eq]; rfl
  have hframe := performs_f1 hr f a.beginAck
    |>.trans (performs_f2w hr f hfit)
    |>.trans (performs_f2s hr f a.stamp)
    |>.trans (performs_f3 (s := s.stamped a.stamp) hr f hfit.1)
    |>.trans (performs_passA (s := s.stamped a.stamp) hr _
      (hwalked.trans_eq htok.symm) (hwalked.trans_eq henl.symm))
    |>.trans (performs_passB (s := (s.stamped a.stamp).latched a.ctls) hr _ fun _ _ => enabled_latched)
    |>.trans (performs_passC (s := (s.stamped a.stamp).latched a.ctls) hr _
      (fun _ _ => enabled_latched) fun _ _ => token_latched)
    |>.trans (performs_f7 (s := (s.stamped a.stamp).latched a.ctls) hr _ a.now)
    |>.trans (performs_f8a hrest _ a.endAck)
  have hlast := steps_f8b hrest { f with scale := scaleAfter s f a } a.showAck
  rw [goto_self hs] at hframe
  rw [hparams] at hlast
  rw [← finishFrame_shown]
  exact hframe.run_then_step hlast ha

/-- Settles O50: the run of pass A for one controller. -/
theorem passAOfOneController : Obligations.PassAOfOneController := by
  intro s f n i c rest hs hi hr ha
  have hpass := performs_fa (f := f) hr hi c
  rw [goto_self hs] at hpass
  exact hpass.run_eq ha

/-! ### The `SHOW` commands (R159 to R161, R164) -/

/-- The word of a `SHOW` command is its encoding, and it starts its frame. -/
theorem showFrame_starts {s : State} {i : Instr} {w : Word} {f : Frame} (h : showFrame s i = some (w, f)) :
    decodeWord w = .ok i ∧ exec i s = .next (s.goto (.f1 f)) := by
  cases i
  case showS ra =>
    obtain ⟨rfl, rfl⟩ := Prod.mk.inj (Option.some.inj h)
    rw [ofNat_zextOf]
    exact ⟨decodeWord_wordR .showS rfl, rfl⟩
  case showG =>
    cases h
    exact ⟨decodeWord_encode .showG, rfl⟩
  case showC ra rb =>
    obtain ⟨rfl, rfl⟩ := Prod.mk.inj (Option.some.inj h)
    rw [ofNat_zextOf, ofNat_zextOf]
    exact ⟨decodeWord_wordR .showC rfl, rfl⟩
  case showCG ra =>
    obtain ⟨rfl, rfl⟩ := Prod.mk.inj (Option.some.inj h)
    rw [ofNat_zextOf]
    exact ⟨decodeWord_wordR .showCG rfl, rfl⟩
  all_goals cases h

/-- A command reads its frame from the registers alone, not from what the host sends. -/
theorem showFrame_congr {s t : State} (hg : t.g = s.g) (hgscale : t.gscale = s.gscale) (i : Instr) :
    showFrame t i = showFrame s i := by
  cases i <;> simp only [showFrame, reg_congr hg, hgscale]

/-- An idle block takes the next command word. -/
theorem step_command {s : State} {w : Word} {words : List Word} {i : Instr} (hs : s.seq = .idle) (hr : s.resetIn = [])
    (hc : s.cmds = w :: words) (hd : decodeWord w = .ok i) :
    step s = exec i { s with cmds := words, pc := s.pc + 1 } := by
  have htick : s.tick = s := by cases s; simp_all [State.tick]
  simp only [step, State.resetNow, hr, hs, htick, State.takeCommand, hc, hd]
  rfl

/-- Settles O56: the step that accepts the command, then its frame. -/
theorem showCommandRunsItsFrame : Obligations.ShowCommandRunsItsFrame := by
  intro s i w f words a rest hf hs hr hc htok henl hcnt hfit ha
  let taken : State := { s with cmds := words, pc := s.pc + 1 }
  have hf' : showFrame taken i = some (w, f) := (showFrame_congr rfl rfl i).trans hf
  obtain ⟨hd, hexec⟩ := showFrame_starts hf'
  have hstep : step s = .next (taken.goto (.f1 f)) := (step_command hs hr hc hd).trans hexec
  obtain ⟨k, hk⟩ := frameRunsToItsEnd (taken.goto (.f1 f)) f a rest rfl hr htok henl hcnt hfit ha
  exact ⟨hd, k + 1, (run_succ hstep k).trans hk⟩

end Sys2Proof.Machine
end

section
/-! PROOF. The parts of the noise kernel and its fold (O32 to O35; 43_noise_kernel.md R192 to R207). -/

namespace Sys2Proof.Machine

/-! ### The kernel's arithmetic at either width -/

/-- The number of bits of a fade: the wide kernel's arithmetic is over 16 bits, the narrow one's over 8 (R190). -/
def Width.bits : Width → Nat
  | .wide => 16
  | .narrow => 8

theorem two_mul_step (w : Width) : 2 * w.step = 2 ^ w.bits := by
  cases w <;> rfl

theorem scale_eq (w : Width) (v f : Nat) : w.scale v f = v * f / 2 ^ w.bits := by
  cases w
  · exact scale16_eq v f
  · exact scale8_eq v f

theorem ease_eq_easeSpec (w : Width) {f : Nat} (hf : f < 2 ^ w.bits) : w.ease f = easeSpec w.bits f := by
  cases w
  · exact ease16_eq_easeSpec hf
  · exact ease8_eq_easeSpec hf

theorem lerp_eq_lerpSpec (w : Width) (a b : Int) (f : Nat) : w.lerp a b f = lerpSpec w.bits a b f := by
  cases w
  · exact lerpBy_eq_lerpSpec scale16_eq a b f
  · exact lerpBy_eq_lerpSpec scale8_eq a b f

theorem avg_isFloorHalf (w : Width) (a b : Int) : IsFloorHalf (a + b) (w.avg a b) := by
  cases w <;> exact isFloorHalf_ediv_two (a + b)

theorem neg_eq (w : Width) (v : Int) : w.neg v = if v = -(w.step : Int) then -(w.step : Int) else -v :=
  ite_congr rfl id fun _ => rfl

/-! ### Axes -/

@[simp] theorem at_far (a : Axis) (w : Width) : a.at w 1 = a.near - w.step := by
  simp [Axis.at]

/-- The mask of R198 cuts nothing off: half a fraction is below `N`. -/
theorem half_mod_step {w : Width} {f : Nat} (hf : f < 2 ^ w.bits) : f / 2 % w.step = f / 2 := by
  have hstep := two_mul_step w
  exact Nat.mod_eq_of_lt (by omega)

theorem fade_eq (p : Params) {w : Width} {f : Nat} (hf : f < 2 ^ w.bits) :
    fade p w f = if p.easeSel = .quad then easeSpec w.bits f else f * f / 2 ^ w.bits := by
  cases hsel : p.easeSel with
  | quad => simp [fade, hsel, ease_eq_easeSpec w hf]
  | legacy => simp [fade, hsel, scale_eq]

/-- An axis over a fraction of its width, as the claims write it. -/
theorem axisOf_eq (p : Params) {w : Width} (b : Byte) {f : Nat} (hf : f < 2 ^ w.bits) :
    (axisOf p w b f).at w 0 = (f / 2 : Nat) ∧ (axisOf p w b f).at w 1 = (f / 2 : Nat) - (w.step : Int) ∧
    (axisOf p w b f).fade = if p.easeSel = .quad then easeSpec w.bits f else f * f / 2 ^ w.bits := by
  simp only [at_near, at_far, axisOf_near, axisOf_fade, half_mod_step hf, fade_eq p hf, true_and]

theorem wideAxis_eq (p : Params) (c : Word) :
    wideAxis p c = axisOf p .wide (c.extractLsb' 16 8) (c.toNat % 2 ^ 16) := by
  simp [wideAxis]

theorem narrowAxis_eq (p : Params) (c : Half) :
    narrowAxis p c = axisOf p .narrow (c.extractLsb' 8 8) (c.toNat % 2 ^ 8) := by
  simp [narrowAxis]

theorem wideAxis_cell (p : Params) (c : Word) : (wideAxis p c).cell.toNat = c.toNat / 2 ^ 16 % 2 ^ 8 := by
  simp [wideAxis, Nat.shiftRight_eq_div_pow]

/-- The lattice byte is the upper half of a narrow coordinate, so no bit above it is cut off. -/
theorem narrowAxis_cell (p : Params) (c : Half) : (narrowAxis p c).cell.toNat = c.toNat / 2 ^ 8 := by
  have hbyte : c.toNat / 256 < 256 := by omega
  simpa [narrowAxis, Nat.shiftRight_eq_div_pow] using hbyte

/-! ### Hash chain -/

theorem permAt_eq (p : Params) (b : Byte) (i : Fin 2) :
    permAt p b i = Memory.lookup (b.toNat + i.val) p.perm := rfl

/-! ### Gradients -/

theorem grad3_ofNat (w : Width) {s : Nat} (hs : s < 16) (x y z : Int) :
    grad3 w (BitVec.ofNat 8 s) x y z = grad3Sel w s x y z := by
  have hsel : (BitVec.ofNat 8 s).toNat % 16 = s := by
    rw [BitVec.toNat_ofNat]; omega
  rw [grad3, hsel]

theorem grad4_standard {p : Params} (hp : p.grad4 = .standard) (h : Byte) (x y z t : Int) :
    grad4 p h x y z t = grad4Standard h x y z t := by
  simp only [grad4, hp]

/-! ### Raw noise

`g` is any function that has the gradients as its values at the corners; what it is elsewhere does not matter. -/

section Fold

variable (p : Params) (w : Width) (x y z t : Axis) {g : List (Fin 2) → Int}

theorem raw1_eq_foldSpec (hg : ∀ i, g [i] = grad1 w (hash1 p x.cell i) (x.at w i)) :
    raw1 p w x = foldSpec w.bits [x.fade] g := by
  simp only [raw1, lerp_eq_lerpSpec, ← hg]
  rfl

theorem raw2_eq_foldSpec (hg : ∀ i j, g [i, j] = grad2 w (hash2 p x.cell y.cell i j) (x.at w i) (y.at w j)) :
    raw2 p w x y = foldSpec w.bits [y.fade, x.fade] g := by
  simp only [raw2, lerp_eq_lerpSpec, ← hg]
  rfl

theorem raw3_eq_foldSpec (hg : ∀ i j k,
    g [i, j, k] = grad3 w (hash3 p x.cell y.cell z.cell i j k) (x.at w i) (y.at w j) (z.at w k)) :
    raw3 p w x y z = foldSpec w.bits [z.fade, y.fade, x.fade] g := by
  simp only [raw3, lerp_eq_lerpSpec, ← hg]
  rfl

theorem raw4_eq_foldSpec (hg : ∀ i j k l,
    g [i, j, k, l] = grad4 p (hash4 p x.cell y.cell z.cell t.cell i j k l)
      (x.at .wide i) (y.at .wide j) (z.at .wide k) (t.at .wide l)) :
    raw4 p x y z t = foldSpec 16 [t.fade, z.fade, y.fade, x.fade] g := by
  simp only [raw4, lerp_eq_lerpSpec, ← hg]
  rfl

end Fold

/-! ### The statements -/

/-- Settles O35: at either width each dimension is the fold, because its lerp is the claims' one. -/
theorem rawNoiseFoldsTheGradients : Obligations.RawNoiseFoldsTheGradients := by
  constructor
  · intro p x y z t
    exact ⟨raw1_eq_foldSpec p .wide _ fun _ => rfl, raw2_eq_foldSpec p .wide _ _ fun _ _ => rfl,
      raw3_eq_foldSpec p .wide _ _ _ fun _ _ _ => rfl, raw4_eq_foldSpec p _ _ _ _ fun _ _ _ _ => rfl⟩
  · intro p x y z
    exact ⟨raw1_eq_foldSpec p .narrow _ fun _ => rfl, raw2_eq_foldSpec p .narrow _ _ fun _ _ => rfl,
      raw3_eq_foldSpec p .narrow _ _ _ fun _ _ _ => rfl⟩

/-- Settles O32: a table index is a byte plus an offset, and only the sums of bytes are reduced. -/
theorem hashChains : Obligations.HashChains := by
  intro p x y z t i j k l
  refine ⟨rfl, ?_, ?_, ?_⟩
  · simp [hash2, permAt_eq]
  · simp [hash3, permAt_eq]
  · simp [hash4, hash3, permAt_eq]

/-- Settles O33: the gradients selector by selector; the two halves of the default 4-D gradient are the 3-D one on
selectors below 16. -/
theorem gradientCases : Obligations.GradientCases := by
  refine ⟨fun v => ⟨neg_eq .wide v, neg_eq .narrow v⟩, avg_isFloorHalf, fun w h x y z => ⟨?_, ?_, ?_⟩, ?_⟩
  · have hs : h.toNat % 16 < 16 := Nat.mod_lt _ (by decide)
    unfold grad3
    interval_cases h.toNat % 16 <;> rfl
  · have hs : h.toNat % 8 < 8 := Nat.mod_lt _ (by decide)
    unfold grad2
    interval_cases h.toNat % 8 <;> rfl
  · have hs : h.toNat % 4 < 4 := Nat.mod_lt _ (by decide)
    unfold grad1
    interval_cases h.toNat % 4 <;> rfl
  · intro p h x y z t hp
    rw [grad4_standard hp, grad4Standard]
    split
    next hlow => rw [grad3_ofNat .wide hlow]
    next => rw [grad3_ofNat .wide (by omega)]

/-- Settles O34: the fields of the coordinate as numbers, then the axis over its fraction. -/
theorem axisOfACoordinate : Obligations.AxisOfACoordinate := by
  constructor
  · intro p c
    refine ⟨wideAxis_cell p c, ?_⟩
    rw [wideAxis_eq]
    exact axisOf_eq p _ (Nat.mod_lt _ (by decide))
  · intro p c
    refine ⟨narrowAxis_cell p c, ?_⟩
    rw [narrowAxis_eq]
    exact axisOf_eq p _ (Nat.mod_lt _ (by decide))

end Sys2Proof.Machine
end

section
/-! PROOF. The noise commands (O27, O29 to O31; 44_noise_ops.md R230 to R248). -/

namespace Sys2Proof.Machine

/-! ### Coordinates and indices of claims are the model's (R230, R248) -/

theorem ofNat_zextOf_reg_sixteen (s : State) (r : Reg) : BitVec.ofNat 16 (zextOf 16 (s.reg r)) = s.coord16 r :=
  ofNat_zextOf 16 (s.reg r)

/-- A 16-bit coordinate shifted left by 8 loses no bit in 32 (43_noise_kernel.md R214). -/
theorem ofNat_zextOf_shifted (s : State) (r : Reg) :
    BitVec.ofNat 32 (zextOf 16 (s.reg r) * 2 ^ 8) = hiresCoord (s.coord16 r) := by
  apply BitVec.eq_of_toNat_eq
  have hlow : (s.coord16 r).toNat = zextOf 16 (s.reg r) := BitVec.toNat_setWidth ..
  have hlt : zextOf 16 (s.reg r) < 65536 := Nat.mod_lt _ (by decide)
  simp only [hiresCoord, BitVec.toNat_ofNat, BitVec.toNat_shiftLeft, BitVec.toNat_setWidth, hlow, Nat.shiftLeft_eq]
  omega

theorem plutIndex_val (idx : BitVec 9) :
    (plutIndex idx).val = if idx.toNat ≤ 256 then idx.toNat else idx.toNat - 256 := by
  unfold plutIndex
  split <;> rfl

/-- `PLUT` reads the table at the folded index, and its byte is zero-extended (R230). -/
theorem setWidth_read_plutIndex (m : Memory) (v : Word) :
    (m.read (plutIndex (v.setWidth 9))).setWidth 32 =
      BitVec.ofNat 32 (Memory.lookup (if zextOf 9 v ≤ 256 then zextOf 9 v else zextOf 9 v - 256) m).toNat := by
  have hidx : (v.setWidth 9).toNat = zextOf 9 v := BitVec.toNat_setWidth ..
  rw [Memory.read, plutIndex_val, hidx, BitVec.ofNat_toNat]

/-! ### Unsigned outputs over the integers (43_noise_kernel.md R211, R212, R214) -/

/-- A natural number as a register value is the same integer as one. -/
theorem unsignedResult_eq_ofInt {n : Nat} {v : Int} (h : (n : Int) = v) : unsignedResult n = BitVec.ofInt 32 v := by
  rw [← h, unsignedResult, BitVec.ofInt_natCast]

theorem rescale_eq_rescaleSpec (bias ratio raw : Int) : (rescale bias ratio raw : Int) = rescaleSpec bias ratio raw :=
  Int.toNat_of_nonneg (Int.emod_nonneg _ (by decide))

/-- The doubled byte saturates at 255 over the natural numbers as over the integers. -/
theorem wrap8_eq_wrapSpec (raw : Int) : (wrap8 raw : Int) = wrapSpec raw := by
  have hbyte : (((raw + 64) % 256).toNat : Int) = (raw + 64) % 256 :=
    Int.toNat_of_nonneg (Int.emod_nonneg _ (by decide))
  simp only [wrap8, qadd8, wrapSpec, Nat.cast_min, Nat.cast_add, hbyte, Nat.cast_ofNat]

theorem unsigned16x1_eq (p : Params) (x : Word) :
    (unsigned16x1 p x : Int) = 2 * (raw16x1 p x + 17308) % 2 ^ 16 :=
  Int.toNat_of_nonneg (Int.emod_nonneg _ (by decide))

/-- The high byte of an unsigned output. -/
theorem natCast_highByte {n : Nat} {v : Int} (h : (n : Int) = v) : ((n / 256 : Nat) : Int) = v / 2 ^ 8 := by
  rw [Int.natCast_ediv, h]
  rfl

/-! ### The statements -/

/-- Settles O27: the model's index is the folded one, and the table is read there. -/
theorem tableLookupCommand : Obligations.TableLookupCommand := by
  intro s rd ra
  exact runsAs_of_writeResult .plut rfl rfl (setWidth_read_plutIndex s.params.perm (s.reg ra))

/-- Settles O29: wide coordinates are whole registers, narrow ones their low halves. -/
theorem rawNoiseCommands : Obligations.RawNoiseCommands := by
  intro s rd ra rb rc re
  simp only [ofNat_zextOf_reg_sixteen]
  refine ⟨?_, ?_, ?_, ?_, ?_, ?_, ?_⟩
  · exact runsAs_of_writeResult .nz16r1 rfl rfl rfl
  · exact runsAs_of_writeResult .nz16r2 rfl rfl rfl
  · exact runsAs_of_writeResult .nz16r3 rfl rfl rfl
  · exact runsAs_of_writeResult .nz16r4 rfl rfl rfl
  · exact runsAs_of_writeResult .nz8r1 rfl rfl rfl
  · exact runsAs_of_writeResult .nz8r2 rfl rfl rfl
  · exact runsAs_of_writeResult .nz8r3 rfl rfl rfl

/-- Settles O30: the one-dimensional bias, the rescale and the 8-bit wrapper give no negative number, so the
model's natural number is the integer of the rule. -/
theorem unsignedNoiseCommands : Obligations.UnsignedNoiseCommands := by
  intro s rd ra rb rc re
  simp only [ofNat_zextOf_reg_sixteen]
  refine ⟨?_, ?_, ?_, ?_, ?_, ?_, ?_⟩
  · exact runsAs_of_writeResult .nz16u1 rfl rfl (unsignedResult_eq_ofInt (unsigned16x1_eq ..))
  · exact runsAs_of_writeResult .nz16u2 rfl rfl (unsignedResult_eq_ofInt (rescale_eq_rescaleSpec ..))
  · exact runsAs_of_writeResult .nz16u3 rfl rfl (unsignedResult_eq_ofInt (rescale_eq_rescaleSpec ..))
  · exact runsAs_of_writeResult .nz16u4 rfl rfl (unsignedResult_eq_ofInt (rescale_eq_rescaleSpec ..))
  · exact runsAs_of_writeResult .nz8u1 rfl rfl (unsignedResult_eq_ofInt (wrap8_eq_wrapSpec _))
  · exact runsAs_of_writeResult .nz8u2 rfl rfl (unsignedResult_eq_ofInt (wrap8_eq_wrapSpec _))
  · exact runsAs_of_writeResult .nz8u3 rfl rfl (unsignedResult_eq_ofInt (wrap8_eq_wrapSpec _))

/-- Settles O31: the coordinates are the shifted low halves, and the result is the high byte of the 16-bit
unsigned output of the same dimension. -/
theorem hiresNoiseCommands : Obligations.HiresNoiseCommands := by
  intro s rd ra rb rc
  simp only [ofNat_zextOf_shifted]
  refine ⟨?_, ?_, ?_⟩
  · exact runsAs_of_writeResult .nz8h1 rfl rfl (unsignedResult_eq_ofInt (natCast_highByte (unsigned16x1_eq ..)))
  · exact runsAs_of_writeResult .nz8h2 rfl rfl
      (unsignedResult_eq_ofInt (natCast_highByte (rescale_eq_rescaleSpec ..)))
  · exact runsAs_of_writeResult .nz8h3 rfl rfl
      (unsignedResult_eq_ofInt (natCast_highByte (rescale_eq_rescaleSpec ..)))

end Sys2Proof.Machine
end

section
/-! PROOF. A word that matches no row is refused (O5; 30_encoding.md R87, R88, 60_exceptions.md R261, R262). -/

namespace Sys2Proof.Machine

/-- A word that matches no row is no command: its opcode byte has no row, or the row that byte selects does not
match. -/
theorem decodeWord_error_of_no_row {w : Word} (hw : ∀ o : Op, w &&& o.mask ≠ o.pattern) :
    ∃ e, decodeWord w = .error e := by
  cases ho : Op.ofCode (fieldOp w).toNat with
  | none => exact ⟨.unknownOpcode (fieldOp w), by simp only [decodeWord, ho]⟩
  | some o => exact ⟨.nonzeroField o, by simp only [decodeWord, ho, if_neg (hw o)]⟩

/-- The reset schedule has nothing to move on when it is empty (log 8). -/
theorem tick_eq_self {s : State} (hr : s.resetIn = []) : s.tick = s := by
  cases s; cases hr; rfl

/-- An idle block takes the next word and refuses it when it is no command. -/
theorem step_refused {s : State} {w : Word} {words : List Word} {e : DecodeReject} (hs : s.seq = .idle)
    (hr : s.resetIn = []) (hc : s.cmds = w :: words) (hd : decodeWord w = .error e) :
    step s = .next (State.raiseIllegal { s with cmds := words, pc := s.pc + 1 } .command) := by
  simp [step, State.resetNow, State.takeCommand, tick_eq_self hr, hr, hs, hc, hd]

/-- Settles O5: the decoder rejects the word, and refusing it sets `ERR.ILL` and responds, nothing else. -/
theorem illegalWordIsAnswered : Obligations.IllegalWordIsAnswered := by
  intro s w rest hs hr hc hw
  obtain ⟨e, hd⟩ := decodeWord_error_of_no_row hw
  exact step_refused hs hr hc hd

end Sys2Proof.Machine
end

section
/-! PROOF. The step in which the reset input is there (O9; 10_state.md R45, 70_reset_and_hazards.md R290, R291). -/

namespace Sys2Proof.Machine

/-- The reset input comes before a running command and before the next command word. -/
theorem step_of_resetNow {s : State} (hr : s.resetNow = true) : step s = .next s.tick.applyReset := if_pos hr

section Values

variable (s : State)

@[simp] theorem applyReset_reg (r : Reg) : s.applyReset.reg r = 0 :=
  Vector.getElem_replicate r.isLt

@[simp] theorem applyReset_token (i : Nat) : s.applyReset.token i = 0 :=
  List.getD_eq_getElem?_getD.trans (List.getElem?_getD_replicate_default_eq _ s.params.maxControllers i)

@[simp] theorem applyReset_enabled (i : Nat) : s.applyReset.enabled i = false :=
  List.getD_eq_getElem?_getD.trans (List.getElem?_getD_replicate_default_eq _ s.params.maxControllers i)

end Values

/-- What R45 says a control register reads as after reset, in a block built with the parameters `p`. -/
def resetCsr (p : Params) : Csr → Word
  | .id => 0x464C0700
  | .cfg => cfgWord p
  | .maxctrl => BitVec.ofNat 32 p.maxControllers
  | .gscale => 255
  | .nframes => 25
  | .err | .minmicros | .lastshow | .fps | .framecnt | .lastmark | .nctrl | .pwrctl | .pwrdata => 0

theorem readCsr_applyReset (s : State) (c : Csr) : s.applyReset.readCsr c = resetCsr s.params c := by
  cases c with
  | err => show 0#30 ++ BitVec.ofBool false ++ BitVec.ofBool false = (0 : Word); decide
  | pwrctl => show 0#31 ++ BitVec.ofBool false = (0 : Word); decide
  | _ => rfl

/-- Settles O9: the step is `applyReset`, which keeps the parameters and the log, and whose state reads as R45
says. -/
theorem resetStepRestoresResetValues : Obligations.ResetStepRestoresResetValues := by
  intro s hr
  have hcsr (c : Csr) : s.tick.applyReset.readCsr c = resetCsr s.params c := readCsr_applyReset s.tick c
  exact ⟨s.tick.applyReset, step_of_resetNow hr, applyReset_reg s.tick,
    hcsr .id, hcsr .cfg, hcsr .maxctrl, hcsr .err, hcsr .gscale, hcsr .minmicros, hcsr .lastshow, hcsr .nframes,
    hcsr .fps, hcsr .framecnt, hcsr .lastmark, hcsr .nctrl, hcsr .pwrctl, hcsr .pwrdata,
    fun i => ⟨applyReset_token s.tick i, applyReset_enabled s.tick i⟩, rfl, rfl, rfl⟩

end Sys2Proof.Machine
end

section
/-! PROOF. The decoder and the encoder are inverse to each other, and the rows of the opcode map decide what a word
is (O1 to O4; 30_encoding.md R80, R86 to R91). -/

namespace Sys2Proof

/-! ### A word by its nibbles -/

/-- Bits `4k + 3` to `4k`. Every field of a word is made of nibbles, and a row's mask fixes whole nibbles. -/
def nibble (w : Word) (k : Nat) : BitVec 4 := w.extractLsb' (4 * k) 4

theorem nibble_toNat (w : Word) (k : Nat) : (nibble w k).toNat = w.toNat / 2 ^ (4 * k) % 2 ^ 4 := by
  simp [nibble, Nat.shiftRight_eq_div_pow]

theorem eq_of_nibbles {w w' : Word} (h : ∀ k < 8, nibble w k = nibble w' k) : w = w' := by
  have bit (v : Word) (i : Nat) : v.getLsbD i = (nibble v (i / 4)).getLsbD (i % 4) := by
    simp [nibble, Nat.div_add_mod, Nat.mod_lt]
  refine BitVec.eq_of_getLsbD_eq fun i hi => ?_
  rw [bit w, bit w', h (i / 4) (by omega)]

theorem nibble_and (w m : Word) (k : Nat) : nibble (w &&& m) k = nibble w k &&& nibble m k :=
  BitVec.extractLsb'_and ..

/-- A nibble that a mask fixes is the same in words that agree under the mask. -/
theorem nibble_eq_of_masked {w w' m : Word} {k : Nat} (h : w &&& m = w' &&& m) (hk : nibble m k = 0xF#4) :
    nibble w k = nibble w' k := by
  have hand := congrArg (nibble · k) h
  simp only [nibble_and, hk] at hand
  rwa [show (0xF#4 : BitVec 4) = BitVec.allOnes 4 from rfl, BitVec.and_allOnes, BitVec.and_allOnes] at hand

/-! A register field is one nibble, the immediate four, a CSR number two. -/

theorem fieldRd_eq_iff {w w' : Word} : fieldRd w = fieldRd w' ↔ nibble w 2 = nibble w' 2 := BitVec.toFin_inj
theorem fieldRa_eq_iff {w w' : Word} : fieldRa w = fieldRa w' ↔ nibble w 3 = nibble w' 3 := BitVec.toFin_inj
theorem fieldRb_eq_iff {w w' : Word} : fieldRb w = fieldRb w' ↔ nibble w 4 = nibble w' 4 := BitVec.toFin_inj
theorem fieldRc_eq_iff {w w' : Word} : fieldRc w = fieldRc w' ↔ nibble w 5 = nibble w' 5 := BitVec.toFin_inj
theorem fieldRe_eq_iff {w w' : Word} : fieldRe w = fieldRe w' ↔ nibble w 6 = nibble w' 6 := BitVec.toFin_inj

theorem fieldImm_eq_iff {w w' : Word} : fieldImm w = fieldImm w' ↔
    nibble w 3 = nibble w' 3 ∧ nibble w 4 = nibble w' 4 ∧ nibble w 5 = nibble w' 5 ∧ nibble w 6 = nibble w' 6 := by
  simp only [← BitVec.toNat_inj, fieldImm_toNat, nibble_toNat, Nat.reduceMul]
  omega

theorem fieldCsr_eq_iff {w w' : Word} :
    fieldCsr w = fieldCsr w' ↔ nibble w 4 = nibble w' 4 ∧ nibble w 5 = nibble w' 5 := by
  simp only [← BitVec.toNat_inj, fieldCsr_toNat, nibble_toNat, Nat.reduceMul]
  omega

/-! ### Which nibbles a row leaves to the operands -/

/-- The nibbles that hold a row's operands (30_encoding.md R86 column "fields used"). -/
def Op.operands : Op → List Nat
  | .nop | .showG => []
  | .showS | .showCG | .setrate | .setratec | .delay => [3]
  | .showC => [3, 4]
  | .mov | .ease8 | .ease16 | .plut | .nz16r1 | .nz16u1 | .nz8r1 | .nz8u1 | .nz8h1 => [2, 3]
  | .csrr => [2, 4, 5]
  | .csrw => [3, 4, 5]
  | .scale8 | .scale8v | .scale16 | .qadd8 | .avg7 | .avg15 | .nz16r2 | .nz16u2 | .nz8r2 | .nz8u2 | .nz8h2 =>
    [2, 3, 4]
  | .lerp7 | .lerp15 | .nz16r3 | .nz16u3 | .nz8r3 | .nz8u3 | .nz8h3 => [2, 3, 4, 5]
  | .ldi | .ldih | .nz16r4 | .nz16u4 => [2, 3, 4, 5, 6]

/-- The mask of a row fixes every other nibble. -/
theorem nibble_mask (o : Op) : ∀ k < 8, k ∉ o.operands → nibble o.mask k = 0xF#4 := by
  cases o <;> decide

/-- The command of a row holds its operands whole. -/
theorem nibble_eq_of_build {o : Op} {w w' : Word} (hb : o.build w = o.build w') :
    ∀ k ∈ o.operands, nibble w k = nibble w' k := by
  cases o <;>
    simp_all [Op.build, Op.operands, fieldRd_eq_iff, fieldRa_eq_iff, fieldRb_eq_iff, fieldRc_eq_iff, fieldRe_eq_iff,
      fieldImm_eq_iff, fieldCsr_eq_iff]

/-- A word is determined by its match under a row's mask and the command that the row's fields give. -/
theorem eq_of_masked_of_build {o : Op} {w w' : Word} (hm : w &&& o.mask = w' &&& o.mask)
    (hb : o.build w = o.build w') : w = w' := by
  refine eq_of_nibbles fun k hk => ?_
  by_cases hop : k ∈ o.operands
  · exact nibble_eq_of_build hb k hop
  · exact nibble_eq_of_masked hm (nibble_mask o k hk hop)

/-! ### The rows -/

theorem Instr.op_build (o : Op) (w : Word) : (o.build w).op = o := by
  cases o <;> rfl

/-- Every row's mask holds the whole opcode byte. -/
theorem fieldOp_mask (o : Op) : fieldOp o.mask = 0xFF#8 := by
  cases o <;> rfl

/-- A word that matches a row has the row's opcode byte. -/
theorem fieldOp_of_row {o : Op} {w : Word} (h : w &&& o.mask = o.pattern) : (fieldOp w).toNat = o.code := by
  have hbyte : fieldOp w &&& fieldOp o.mask = fieldOp o.pattern := by
    rw [← h]; exact BitVec.extractLsb'_and.symm
  rw [fieldOp_mask, show (0xFF#8 : Byte) = BitVec.allOnes 8 from rfl, BitVec.and_allOnes] at hbyte
  rw [hbyte]
  cases o <;> rfl

/-- A word that matches a row decodes to the command of that row with the word's fields. -/
theorem decodeWord_of_row {o : Op} {w : Word} (h : w &&& o.mask = o.pattern) : decodeWord w = .ok (o.build w) := by
  simp only [decodeWord, fieldOp_of_row h, Op.ofCode_code, h, if_true]

/-- A word that decodes to a command matches the row of that command. -/
theorem row_of_decodeWord {w : Word} {i : Instr} (h : decodeWord w = .ok i) :
    w &&& i.op.mask = i.op.pattern ∧ i.op.build w = i := by
  unfold decodeWord at h
  split at h
  · cases h
  next o _ =>
    split at h
    next hrow => cases h; rw [Instr.op_build]; exact ⟨hrow, rfl⟩
    · cases h

/-! ### The statements -/

/-- Settles O2: the decoder reads the word of every command back. -/
theorem decodeOfEncode : Obligations.DecodeOfEncode := decodeWord_encode

/-- Settles O3: the word and the command's own word match the same row and give the same command. -/
theorem encodeOfDecode : Obligations.EncodeOfDecode := by
  intro w i h
  obtain ⟨hrow, hbuild⟩ := row_of_decodeWord h
  have hown : encode i &&& i.op.mask = i.op.pattern := Laws.EncodingRow.all i
  exact eq_of_masked_of_build (hown.trans hrow.symm) ((build_encode i).trans hbuild.symm)

/-- Settles O4: the opcode byte of a word that matches a row tells the row. -/
theorem rowsDecideDecoding : Obligations.RowsDecideDecoding := by
  refine fun w => ⟨fun o o' h h' => ?_, fun o h => ⟨_, decodeWord_of_row h, Instr.op_build o w⟩,
    Machine.decodeWord_error_of_no_row⟩
  have hcode : o.code = o'.code := (fieldOp_of_row h).symm.trans (fieldOp_of_row h')
  exact Option.some.inj (by rw [← Op.ofCode_code o, hcode, Op.ofCode_code o'])

/-- Settles O1: each word is the encoding of its command. -/
theorem specWordsDecode : Obligations.SpecWordsDecode :=
  ⟨decodeWord_encode .nop, decodeWord_encode (.ldi 1 0x1234), decodeWord_encode (.csrr 5 0x14),
    decodeWord_encode (.csrw 0x10 3), decodeWord_encode (.lerp7 10 7 8 9), decodeWord_encode (.nz16u3 4 1 2 3),
    decodeWord_encode (.nz16r4 5 1 2 3 4), decodeWord_encode (.showC 1 2), decodeWord_encode (.delay 1)⟩

end Sys2Proof
end

section
/-! PROOF. What a command does, once, and what follows for every command (O6, O8, O10, O11, O18, O43, O45;
10_state.md R22, R45, 40_move_csr.md, 42_sequencer.md R141, 60_exceptions.md R260). -/

namespace Sys2Proof.Machine

/-! ### Commands that compute from the registers and the parameters alone (41_alu.md R110, 44_noise_ops.md R249) -/

/-- A move, ALU or noise command: not a CSR command and not one of the sequencer's. -/
def Computes (i : Instr) : Prop :=
  i.op ∉ [Op.csrr, .csrw, .showS, .showG, .showC, .showCG, .setrate, .setratec, .delay]

/-- Such a command is `NOP`, or its destination and its result are the same in every state with the same registers
and parameters. -/
theorem exec_computes {i : Instr} (hi : Computes i) (s : State) :
    i = .nop ∨ ∃ rd v, exec i s = .next (s.writeResult rd v) ∧
      ∀ s' : State, s.g = s'.g → s.params = s'.params → exec i s' = .next (s'.writeResult rd v) := by
  cases i
  case nop => exact .inl rfl
  case csrr | csrw | showS | showG | showC | showCG | setrate | setratec | delay => simp [Computes, Instr.op] at hi
  all_goals
    refine .inr ⟨_, _, rfl, fun s' hg hp => ?_⟩
    cases s; cases s'; cases hg; cases hp
    rfl

/-! ### All that a command can do -/

/-- The five commands that run over several steps (42_sequencer.md R140). -/
abbrev MultiStep (i : Instr) : Prop :=
  i.op = .showS ∨ i.op = .showG ∨ i.op = .showC ∨ i.op = .showCG ∨ i.op = .delay

/-- Where SEQ goes when it accepts a command (42_sequencer.md R145): the first step of a frame that belongs to no
`DELAY`, or the first sample of a `DELAY`. -/
inductive Accepts : SeqState → Prop
  | frame (f : Frame) (h : f.delay = none) : Accepts (.f1 f)
  | delay (ms : Word) : Accepts (.delayStart ms)

theorem exec_multiStep {i : Instr} (hi : MultiStep i) (s : State) :
    ∃ q, Accepts q ∧ exec i s = .next (s.goto q) := by
  cases i
  case showS | showG | showC | showCG => exact ⟨_, .frame _ rfl, rfl⟩
  case delay => exact ⟨_, .delay _, rfl⟩
  all_goals simp [MultiStep, Instr.op] at hi

/-- What a single-step command can do to the block: a register result, a bare response, a refusal, or the write of a
control register. -/
inductive Effect (s : State) : State → Prop
  | result (rd : Reg) (v : Word) : Effect s (s.writeResult rd v)
  | respond : Effect s (s.respond 0)
  | refuse : Effect s (s.raiseIllegal .csr)
  | write {v : Word} {c : Csr} {u : State} (h : s.writeCsr v c = some u) : Effect s (u.respond 0)

theorem exec_singleStep {i : Instr} (hi : ¬ MultiStep i) (s : State) : ∃ t, Effect s t ∧ exec i s = .next t := by
  by_cases hc : Computes i
  · obtain rfl | ⟨rd, v, h, -⟩ := exec_computes hc s
    · exact ⟨_, .respond, rfl⟩
    · exact ⟨_, .result rd v, h⟩
  cases i
  case csrr rd csr =>
    cases hn : Csr.ofNumber csr.toNat with
    | none => exact ⟨_, .refuse, exec_csrr_absent hn⟩
    | some c => exact ⟨_, .result rd _, exec_csrr_existing hn⟩
  case csrw csr ra =>
    by_cases hw : ∃ c u, Csr.ofNumber csr.toNat = some c ∧ s.writeCsr (s.reg ra) c = some u
    · obtain ⟨c, u, hn, hu⟩ := hw
      exact ⟨_, .write hu, exec_csrw_writable hn hu⟩
    · refine ⟨_, .refuse, exec_csrw_refused fun c hn => ?_⟩
      exact Option.eq_none_iff_forall_ne_some.2 fun u hu => hw ⟨c, u, hn, hu⟩
  case setrate => exact ⟨_, .write (c := .minmicros) rfl, rfl⟩
  case setratec => exact ⟨_, .write (c := .minmicros) rfl, rfl⟩
  case showS | showG | showC | showCG | delay => simp [MultiStep, Instr.op] at hi
  all_goals simp [Computes, Instr.op] at hc

/-- No command faults or is refused by the model (60_exceptions.md R260, R264). -/
theorem exec_total (i : Instr) (s : State) : ∃ t, exec i s = .next t := by
  by_cases hi : MultiStep i
  · obtain ⟨q, -, h⟩ := exec_multiStep hi s
    exact ⟨_, h⟩
  · obtain ⟨t, -, h⟩ := exec_singleStep hi s
    exact ⟨t, h⟩

/-- All that a command can do. -/
theorem exec_cases {i : Instr} {s t : State} (h : exec i s = .next t) :
    (MultiStep i ∧ ∃ q, Accepts q ∧ t = s.goto q) ∨ (¬ MultiStep i ∧ Effect s t) := by
  by_cases hi : MultiStep i
  · obtain ⟨q, hq, hx⟩ := exec_multiStep hi s
    cases hx.symm.trans h
    exact .inl ⟨hi, q, hq, rfl⟩
  · obtain ⟨u, hu, hx⟩ := exec_singleStep hi s
    cases hx.symm.trans h
    exact .inr ⟨hi, hu⟩

/-! ### What a single-step command leaves, and what it answers -/

/-- The one response of a single-step command. -/
theorem Effect.log_eq {s t : State} (h : Effect s t) :
    ∃ st d, t.log = s.log ++ [.respond st d] ∧ st.toNat ≤ 2 ∧ (st ≠ 0 → d = 0) := by
  cases h with
  | result rd v => exact ⟨0, v, rfl, by decide, fun h => absurd rfl h⟩
  | respond => exact ⟨0, 0, rfl, by decide, fun h => absurd rfl h⟩
  | refuse => exact ⟨2, 0, rfl, by decide, fun _ => rfl⟩
  | write hw =>
    refine ⟨0, 0, ?_, by decide, fun h => absurd rfl h⟩
    obtain ⟨-, rfl⟩ | ⟨-, rfl⟩ | ⟨-, rfl⟩ | ⟨-, rfl⟩ | ⟨-, rfl⟩ | ⟨-, rfl⟩ := writeCsr_cases hw <;> rfl

/-- A single-step command writes registers, host-written control registers and `ERR`, nothing else of the block. -/
theorem Effect.frame {s t : State} (h : Effect s t) :
    t = { s with
      g := t.g, errCsre := t.errCsre, gscale := t.gscale, minMicros := t.minMicros, nFrames := t.nFrames,
      nCtrl := t.nCtrl, pwrEn := t.pwrEn, pwrData := t.pwrData, log := t.log } := by
  cases h with
  | result | respond | refuse => rfl
  | write hw => obtain ⟨-, rfl⟩ | ⟨-, rfl⟩ | ⟨-, rfl⟩ | ⟨-, rfl⟩ | ⟨-, rfl⟩ | ⟨-, rfl⟩ := writeCsr_cases hw <;> rfl

/-- `ERR.CSRE` is sticky. -/
theorem Effect.errCsre {s t : State} (h : Effect s t) (hs : s.errCsre = true) : t.errCsre = true := by
  cases h with
  | result | respond => exact hs
  | refuse => rfl
  | write hw => obtain ⟨-, rfl⟩ | ⟨-, rfl⟩ | ⟨-, rfl⟩ | ⟨-, rfl⟩ | ⟨-, rfl⟩ | ⟨-, rfl⟩ := writeCsr_cases hw <;> exact hs

/-! ### Reading back a control register -/

/-- The low bits of a word, stored in `n` bits and zero-extended. -/
theorem setWidth_setWidth_eq_ofNat {n : Nat} (hn : n ≤ 32) (v : Word) :
    (v.setWidth n).setWidth 32 = BitVec.ofNat 32 (zextOf n v) := by
  apply BitVec.eq_of_toNat_eq
  have hlt : zextOf n v < 2 ^ 32 := (Nat.mod_le ..).trans_lt v.isLt
  rw [BitVec.toNat_setWidth_of_le hn, BitVec.toNat_setWidth, BitVec.toNat_ofNat, Nat.mod_eq_of_lt hlt]
  rfl

theorem eq_ofNat_zextOf (v : Word) : v = BitVec.ofNat 32 (zextOf 32 v) := by
  rw [← setWidth_setWidth_eq_ofNat (Nat.le_refl 32), BitVec.setWidth_eq, BitVec.setWidth_eq]

/-- Bit 0 of a word, as `PWRCTL` shows it. -/
theorem append_getLsbD_eq_ofNat (v : Word) : 0#31 ++ BitVec.ofBool (v.getLsbD 0) = BitVec.ofNat 32 (zextOf 1 v) := by
  rw [← decide_zextOf_one]
  obtain h | h : zextOf 1 v = 0 ∨ zextOf 1 v = 1 := Nat.mod_two_eq_zero_or_one v.toNat
  all_goals rw [h]; rfl

/-- Writing one of the six writable registers, then reading the register of the same number. -/
theorem completes_csrr_of_write {s u t : State} {csr : Byte} {c : Csr} {ra rd : Reg} {v : Word}
    (hn : Csr.ofNumber csr.toNat = some c) (hw : s.writeCsr (s.reg ra) c = some u)
    (hv : (u.respond 0).readCsr c = v) (ht : exec (.csrw csr ra) s = .next t) : Completes (.csrr rd csr) t rd v := by
  cases (exec_csrw_writable hn hw).symm.trans ht
  exact completes_of_writeResult (exec_csrr_existing hn) hv

/-! ### The statements -/

/-- Settles O6: an idle block without a reset takes the next word and runs it. -/
theorem stepRunsDecodedCommand : Obligations.StepRunsDecodedCommand := by
  intro s w rest i hs hr hc hd
  simp [step, hr, hs, State.takeCommand, hc, hd]

/-- Settles O8: a step is a reset, a step of SEQ, nothing, a command or the refusal of a word. -/
theorem everyStepAnswersNext : Obligations.EveryStepAnswersNext := by
  intro s
  unfold step
  split
  · exact ⟨_, rfl⟩
  split
  · exact ⟨_, rfl⟩
  split
  · exact ⟨_, rfl⟩
  split
  next i _ => exact exec_total i _
  · exact ⟨_, rfl⟩

/-- Settles O10: the reset step is `applyReset`, which keeps all of these. -/
theorem resetLeavesHostAndEnvironment : Obligations.ResetLeavesHostAndEnvironment := by
  intro s t hr ht
  cases (step_of_resetNow hr).symm.trans ht
  exact ⟨rfl, rfl, rfl, rfl, rfl, rfl⟩

/-- Settles O11: a multi-step command only moves SEQ, and any other only responds. -/
theorem oneResponsePerCommand : Obligations.OneResponsePerCommand := by
  intro i s t h
  obtain ⟨hi, q, hq, rfl⟩ | ⟨hi, he⟩ := exec_cases h
  · rw [if_pos hi]
    exact ⟨rfl, by cases hq <;> simp⟩
  · rw [if_neg hi]
    obtain ⟨st, d, hlog, -⟩ := he.log_eq
    exact ⟨by rw [he.frame], st, d, hlog⟩

/-- Settles O18: the register holds the low bits of its width, and reads as them. -/
theorem csrWriteThenRead : Obligations.CsrWriteThenRead := by
  intro s t csr w ra rd hmem ht
  simp only [List.mem_cons, Prod.mk.injEq, List.not_mem_nil, or_false] at hmem
  obtain ⟨hn, rfl⟩ | ⟨hn, rfl⟩ | ⟨hn, rfl⟩ | ⟨hn, rfl⟩ | ⟨hn, rfl⟩ | ⟨hn, rfl⟩ := hmem
  · exact completes_csrr_of_write (c := .gscale) (by rw [hn]; rfl) rfl (setWidth_setWidth_eq_ofNat (by decide) _) ht
  · exact completes_csrr_of_write (c := .minmicros) (by rw [hn]; rfl) rfl (eq_ofNat_zextOf _) ht
  · exact completes_csrr_of_write (c := .nframes) (by rw [hn]; rfl) rfl (setWidth_setWidth_eq_ofNat (by decide) _) ht
  · exact completes_csrr_of_write (c := .nctrl) (by rw [hn]; rfl) rfl (setWidth_setWidth_eq_ofNat (by decide) _) ht
  · exact completes_csrr_of_write (c := .pwrctl) (by rw [hn]; rfl) rfl (append_getLsbD_eq_ofNat _) ht
  · exact completes_csrr_of_write (c := .pwrdata) (by rw [hn]; rfl) rfl (eq_ofNat_zextOf _) ht

/-- Settles O43: the two states answer with the same result in the same register. -/
theorem computationsArePure : Obligations.ComputationsArePure := by
  intro i s s' t t' hi hg hp h h'
  obtain rfl | ⟨rd, v, hx, hx'⟩ := exec_computes hi s
  · cases h; cases h'
    exact ⟨hg, 0, rfl, rfl⟩
  · cases hx.symm.trans h
    cases (hx' s' hg hp).symm.trans h'
    exact ⟨by simp [hg], v, rfl, rfl⟩

/-- Settles O45: the inputs of the frame are the low bits of the operands (42_sequencer.md R159, R161). -/
theorem multiStepCommandsAreAccepted : Obligations.MultiStepCommandsAreAccepted := by
  intro s ra rb
  simp only [ofNat_zextOf]
  exact ⟨decodeWord_wordR .delay rfl, rfl, rfl, rfl, rfl, rfl⟩

end Sys2Proof.Machine
end

section
/-! PROOF. One step of a running sequencer command as an exchange and what follows it (O7, O12, O13, O54;
10_state.md R27, R30, R46, 20_memory.md R68, 42_sequencer.md R144 to R158, R165, R166, 70_reset_and_hazards.md R299). -/

namespace Sys2Proof.Machine

/-! ### The parts of a step of SEQ -/

/-- What SEQ asks of the environment in this step, as it is observed with the answer; `none` for a step without a
transaction or a sample. -/
def State.request (s : State) : Option (Word → IoEvent) :=
  match s.seq with
  | .idle => none
  | .delayStart _ | .delaySleep _ _ | .delayTest _ => some .ms
  | .delayTop _ => if s.params.accurateClock then none else some .ms
  | .f1 _ => if s.params.manualEvents then none else some fun _ => .evt EvtCode.beginFrame.number
  | .f2w _ => if s.minMicros = 0 then none else some .us
  | .f2s _ => some .us
  | .f3 f => if s.pwrEn then some fun r => .pwr f.scale s.pwrData (r.setWidth 8) else none
  | .fa _ n i => if i < n then some (.ctl CtlKind.qEnabled.number (BitVec.ofNat 8 i) 0 0) else none
  | .faSize _ _ i => some (.ctl CtlKind.qSize.number (BitVec.ofNat 8 i) 0 0)
  | .faBegin _ _ i size => some (.ctl CtlKind.beginShow.number (BitVec.ofNat 8 i) (size.setWidth 32) 0)
  | .faDither _ _ i =>
    if s.fps.toNat < 100 then some (.ctl CtlKind.setDither.number (BitVec.ofNat 8 i) 0 0) else none
  | .fb f n i =>
    if i < n ∧ s.enabled i = true then
      match f.kind with
      | .leds => some (.ctl CtlKind.emit.number (BitVec.ofNat 8 i) 0 f.scale)
      | .color => some (.ctl CtlKind.emitColor.number (BitVec.ofNat 8 i) (f.color.setWidth 32) f.scale)
    else none
  | .fc _ n i =>
    if i < n ∧ s.enabled i = true then some (.ctl CtlKind.endShow.number (BitVec.ofNat 8 i) (s.token i) 0) else none
  | .f7 _ => if estimateDue s then some .ms else none
  | .f8a _ => some fun _ => .evt EvtCode.endFrame.number
  | .f8b _ => if s.params.manualEvents then none else some fun _ => .evt EvtCode.endShowLeds.number
  | .delayYield _ => some fun _ => .yld

/-- What a step of SEQ from `q` with the answer `r` writes beside SEQ's own place: the stamp, `ENL[]`, `TOK[]`, the
estimator's registers. -/
def SeqState.absorb (q : SeqState) (r : Word) (s : State) : State :=
  match q with
  | .f2s _ => s.stamped r
  | .fa _ n i =>
    if i < n then if r.getLsbD 0 then s.setEnabled i true else (s.setEnabled i false).setToken i 0 else s
  | .faBegin _ _ i _ => s.setToken i r
  | .f7 _ => s.counted r
  | _ => s

/-- The frame of a `DELAY` iteration (42_sequencer.md R165). -/
def State.delayFrame (s : State) (d : DelayCtx) : Frame :=
  { kind := .leds, color := 0, scale := s.gscale, delay := some d }

/-- Where a step of SEQ from `q` with the answer `r` goes (42_sequencer.md R145). -/
def SeqState.target (q : SeqState) (r : Word) (s : State) : SeqState :=
  match q with
  | .idle => .idle
  | .delayStart ms => .delayTop { start := r, ms := ms }
  | .delayTop d => if s.params.accurateClock then .f1 (s.delayFrame d) else .delaySleep d r
  | .delaySleep d m0 => if 1 ≤ (r - m0).toNat then .f1 (s.delayFrame d) else .delaySleep d m0
  | .f1 f => .f2w f
  | .f2w f => if s.minMicros ≠ 0 ∧ (r - s.lastShow).toNat < s.minMicros.toNat then .f2w f else .f2s f
  | .f2s f => .f3 f
  | .f3 f => .fa (if s.pwrEn then { f with scale := r.setWidth 8 } else f) s.walkBound 0
  | .fa f n i => if i < n then if r.getLsbD 0 then .faSize f n i else .faDither f n i else .fb f n 0
  | .faSize f n i => .faBegin f n i (r.setWidth 16)
  | .faBegin f n i _ => .faDither f n i
  | .faDither f n i => .fa f n (i + 1)
  | .fb f n i => if i < n then .fb f n (i + 1) else .fc f n 0
  | .fc f n i => if i < n then .fc f n (i + 1) else .f7 f
  | .f7 f => .f8a f
  | .f8a f => .f8b f
  | .f8b f => f.delay.elim .idle .delayYield
  | .delayYield d => .delayTest d
  | .delayTest d => if d.ms.toNat ≤ (r - d.start).toNat then .idle else .delayTop d

/-- SEQ arrives at a place; at `IDLE` the command has ended and responds. -/
def State.arrive (s : State) : SeqState → State
  | .idle => (s.goto .idle).respond 0
  | q => s.goto q

/-- A step of SEQ from `q` once its answer `r`, if it asks for one, is there. -/
def SeqState.proceed (q : SeqState) (r : Word) (s : State) : State := (q.absorb r s).arrive (q.target r s)

/-! ### The parts are those of the model -/

theorem transact_congr {s : State} {e : Word → IoEvent} {k k' : Word → State → State}
    (h : ∀ r, k r (s.dropAnswer.record (e r)) = k' r (s.dropAnswer.record (e r))) :
    s.transact e k = s.transact e k' := by
  unfold State.transact
  split
  · rfl
  · exact h _

/-- A step of SEQ put together from its parts. -/
def State.advance (s : State) : State :=
  s.request.elim (s.seq.proceed 0 s) fun e => s.transact e s.seq.proceed

section States
variable {s : State} {q : SeqState} {f : Frame} {n i : Nat} {d : DelayCtx}

theorem advance_silent (hq : s.seq = q) (h : s.request = none) : s.advance = q.proceed 0 s := by
  rw [State.advance, h, hq]; rfl

theorem advance_asking {e : Word → IoEvent} (hq : s.seq = q) (h : s.request = some e) :
    s.advance = s.transact e q.proceed := by
  rw [State.advance, h, hq]; rfl

theorem stepDelayStart_eq {ms : Word} (hq : s.seq = .delayStart ms) : stepDelayStart ms s = s.advance := by
  rw [advance_asking hq (e := .ms) (by simp only [State.request, hq])]
  rfl

theorem stepDelayTop_eq (hq : s.seq = .delayTop d) : stepDelayTop d s = s.advance := by
  unfold stepDelayTop
  split
  next hc =>
    rw [advance_silent hq (by simp only [State.request, hq, if_pos hc])]
    simp only [SeqState.proceed, SeqState.target, if_pos hc]
    rfl
  next hc =>
    rw [advance_asking hq (e := .ms) (by simp only [State.request, hq, if_neg hc])]
    refine transact_congr fun r => ?_
    simp only [SeqState.proceed, SeqState.target, record_params, dropAnswer_params, if_neg hc]
    rfl

theorem stepDelaySleep_eq {m0 : Word} (hq : s.seq = .delaySleep d m0) : stepDelaySleep d m0 s = s.advance := by
  rw [advance_asking hq (e := .ms) (by simp only [State.request, hq])]
  refine transact_congr fun r => ?_
  simp only [SeqState.proceed, SeqState.target]
  split <;> rfl

theorem stepF1_eq (hq : s.seq = .f1 f) : stepF1 f s = s.advance := by
  unfold stepF1
  split
  next hm => rw [advance_silent hq (by simp only [State.request, hq, if_pos hm])]; rfl
  next hm =>
    rw [advance_asking hq (e := fun _ => .evt EvtCode.beginFrame.number) (by simp only [State.request, hq, if_neg hm])]
    rfl

theorem stepF2w_eq (hq : s.seq = .f2w f) : stepF2w f s = s.advance := by
  unfold stepF2w
  split
  next hm =>
    rw [advance_silent hq (by simp only [State.request, hq, if_pos hm])]
    simp only [SeqState.proceed, SeqState.target, hm, ne_eq, not_true_eq_false, false_and, if_false]
    rfl
  next hm =>
    rw [advance_asking hq (e := .us) (by simp only [State.request, hq, if_neg hm])]
    refine transact_congr fun r => ?_
    simp only [SeqState.proceed, SeqState.target, record_minMicros, dropAnswer_minMicros, hm, ne_eq, true_and,
      not_false_iff]
    split <;> rfl

theorem stepF2s_eq (hq : s.seq = .f2s f) : stepF2s f s = s.advance := by
  rw [advance_asking hq (e := .us) (by simp only [State.request, hq])]
  rfl

theorem stepF3_eq (hq : s.seq = .f3 f) : stepF3 f s = s.advance := by
  unfold stepF3
  split
  next hp =>
    rw [advance_asking hq (e := fun r => .pwr f.scale s.pwrData (r.setWidth 8))
      (by simp only [State.request, hq, if_pos hp])]
    refine transact_congr fun r => ?_
    simp only [SeqState.proceed, SeqState.target, record_pwrEn, dropAnswer_pwrEn, if_pos hp]
    rfl
  next hp =>
    rw [advance_silent hq (by simp only [State.request, hq, if_neg hp])]
    simp only [SeqState.proceed, SeqState.target, if_neg hp]
    rfl

theorem stepFa_eq (hq : s.seq = .fa f n i) : stepFa f n i s = s.advance := by
  unfold stepFa
  split
  next hi =>
    rw [advance_asking hq (e := .ctl CtlKind.qEnabled.number (BitVec.ofNat 8 i) 0 0)
      (by simp only [State.request, hq, if_pos hi])]
    refine transact_congr fun r => ?_
    simp only [SeqState.proceed, SeqState.target, SeqState.absorb, if_pos hi]
    split <;> rfl
  next hi =>
    rw [advance_silent hq (by simp only [State.request, hq, if_neg hi])]
    simp only [SeqState.proceed, SeqState.target, SeqState.absorb, if_neg hi]
    rfl

theorem stepFaSize_eq (hq : s.seq = .faSize f n i) : stepFaSize f n i s = s.advance := by
  rw [advance_asking hq (e := .ctl CtlKind.qSize.number (BitVec.ofNat 8 i) 0 0) (by simp only [State.request, hq])]
  rfl

theorem stepFaBegin_eq {size : Half} (hq : s.seq = .faBegin f n i size) : stepFaBegin f n i size s = s.advance := by
  rw [advance_asking hq (e := .ctl CtlKind.beginShow.number (BitVec.ofNat 8 i) (size.setWidth 32) 0)
    (by simp only [State.request, hq])]
  rfl

theorem stepFaDither_eq (hq : s.seq = .faDither f n i) : stepFaDither f n i s = s.advance := by
  unfold stepFaDither
  split
  next hd =>
    rw [advance_asking hq (e := .ctl CtlKind.setDither.number (BitVec.ofNat 8 i) 0 0)
      (by simp only [State.request, hq, if_pos hd])]
    rfl
  next hd => rw [advance_silent hq (by simp only [State.request, hq, if_neg hd])]; rfl

/-- Pass B or C goes on to the next controller. -/
theorem proceed_fb_next (hi : i < n) (r : Word) (t : State) :
    (SeqState.fb f n i).proceed r t = t.goto (.fb f n (i + 1)) := by
  simp only [SeqState.proceed, SeqState.target, if_pos hi]; rfl

theorem proceed_fc_next (hi : i < n) (r : Word) (t : State) :
    (SeqState.fc f n i).proceed r t = t.goto (.fc f n (i + 1)) := by
  simp only [SeqState.proceed, SeqState.target, if_pos hi]; rfl

theorem stepFb_eq (hq : s.seq = .fb f n i) : stepFb f n i s = s.advance := by
  unfold stepFb
  by_cases hi : i < n
  · rw [if_pos hi]
    split
    next he =>
      cases hk : f.kind with
      | leds =>
        rw [advance_asking hq (e := .ctl CtlKind.emit.number (BitVec.ofNat 8 i) 0 f.scale)
          (by simp only [State.request, hq, hi, he, hk, and_self, if_true])]
        exact transact_congr fun r => (proceed_fb_next hi r _).symm
      | color =>
        rw [advance_asking hq
          (e := .ctl CtlKind.emitColor.number (BitVec.ofNat 8 i) (f.color.setWidth 32) f.scale)
          (by simp only [State.request, hq, hi, he, hk, and_self, if_true])]
        exact transact_congr fun r => (proceed_fb_next hi r _).symm
    next he =>
      rw [advance_silent hq (by simp [State.request, hq, he]), proceed_fb_next hi]
  · rw [if_neg hi, advance_silent hq (by simp only [State.request, hq, hi, false_and, if_false])]
    simp only [SeqState.proceed, SeqState.target, if_neg hi]
    rfl

theorem stepFc_eq (hq : s.seq = .fc f n i) : stepFc f n i s = s.advance := by
  unfold stepFc
  by_cases hi : i < n
  · rw [if_pos hi]
    split
    next he =>
      rw [advance_asking hq (e := .ctl CtlKind.endShow.number (BitVec.ofNat 8 i) (s.token i) 0)
        (by simp only [State.request, hq, hi, he, and_self, if_true])]
      exact transact_congr fun r => (proceed_fc_next hi r _).symm
    next he =>
      rw [advance_silent hq (by simp [State.request, hq, he]), proceed_fc_next hi]
  · rw [if_neg hi, advance_silent hq (by simp only [State.request, hq, hi, false_and, if_false])]
    simp only [SeqState.proceed, SeqState.target, if_neg hi]
    rfl

theorem stepF7_eq (hq : s.seq = .f7 f) : stepF7 f s = s.advance := by
  unfold stepF7
  split
  next hd =>
    have hdue : estimateDue s = true := decide_eq_true hd
    rw [advance_asking hq (e := .ms) (by simp only [State.request, hq, if_pos hdue])]
    refine transact_congr fun r => ?_
    have hdue' : estimateDue (s.dropAnswer.record (.ms r)) = true := by simpa [estimateDue] using hdue
    simp only [SeqState.proceed, SeqState.absorb, State.counted, if_pos hdue']
    rfl
  next hd =>
    have hdue : ¬ estimateDue s = true := fun h => hd (of_decide_eq_true h)
    rw [advance_silent hq (by simp only [State.request, hq, if_neg hdue])]
    simp only [SeqState.proceed, SeqState.absorb, State.counted, if_neg hdue]
    rfl

theorem stepF8a_eq (hq : s.seq = .f8a f) : stepF8a f s = s.advance := by
  rw [advance_asking hq (e := fun _ => .evt EvtCode.endFrame.number) (by simp only [State.request, hq])]
  rfl

theorem finishFrame_eq (s : State) (f : Frame) : s.finishFrame f = s.arrive (f.delay.elim .idle .delayYield) := by
  unfold State.finishFrame
  cases f.delay <;> rfl

theorem stepF8b_eq (hq : s.seq = .f8b f) : stepF8b f s = s.advance := by
  unfold stepF8b
  split
  next hm =>
    rw [advance_silent hq (by simp only [State.request, hq, if_pos hm])]
    exact finishFrame_eq s f
  next hm =>
    rw [advance_asking hq (e := fun _ => .evt EvtCode.endShowLeds.number)
      (by simp only [State.request, hq, if_neg hm])]
    exact transact_congr fun _ => finishFrame_eq _ f

theorem stepDelayYield_eq (hq : s.seq = .delayYield d) : stepDelayYield d s = s.advance := by
  rw [advance_asking hq (e := fun _ => .yld) (by simp only [State.request, hq])]
  rfl

theorem stepDelayTest_eq (hq : s.seq = .delayTest d) : stepDelayTest d s = s.advance := by
  rw [advance_asking hq (e := .ms) (by simp only [State.request, hq])]
  refine transact_congr fun r => ?_
  simp only [SeqState.proceed, SeqState.target]
  split <;> rfl

/-- The parts put together are the model's step of SEQ. -/
theorem seqStep_eq (hs : s.seq ≠ .idle) : seqStep s = s.advance := by
  unfold seqStep
  split
  next hq => exact absurd hq hs
  next hq => exact stepDelayStart_eq hq
  next hq => exact stepDelayTop_eq hq
  next hq => exact stepDelaySleep_eq hq
  next hq => exact stepF1_eq hq
  next hq => exact stepF2w_eq hq
  next hq => exact stepF2s_eq hq
  next hq => exact stepF3_eq hq
  next hq => exact stepFa_eq hq
  next hq => exact stepFaSize_eq hq
  next hq => exact stepFaBegin_eq hq
  next hq => exact stepFaDither_eq hq
  next hq => exact stepFb_eq hq
  next hq => exact stepFc_eq hq
  next hq => exact stepF7_eq hq
  next hq => exact stepF8a_eq hq
  next hq => exact stepF8b_eq hq
  next hq => exact stepDelayYield_eq hq
  next hq => exact stepDelayTest_eq hq

end States

/-- Where a step of SEQ from the state `s` goes on once its exchange is made: from `s` itself when it asks nothing, else
with the answer used up and the exchange observed. -/
inductive Exchanged (s : State) : State → Prop
  | silent : Exchanged s s
  | answered {e : Word → IoEvent} (h : s.request = some e) (r : Word) : Exchanged s (s.dropAnswer.record (e r))

/-- A step of SEQ waits or goes on. -/
theorem seqStep_waits_or_proceeds {s : State} (hs : s.seq ≠ .idle) :
    seqStep s = s.dropAnswer ∨ ∃ u r, Exchanged s u ∧ seqStep s = s.seq.proceed r u := by
  rw [seqStep_eq hs]
  cases hreq : s.request with
  | none => exact .inr ⟨s, 0, .silent, advance_silent rfl hreq⟩
  | some e =>
    rw [advance_asking rfl hreq]
    obtain ⟨-, hwait⟩ | ⟨r, -, hgo⟩ := transact_cases s e s.seq.proceed
    · exact .inl hwait
    · exact .inr ⟨_, r, .answered hreq r, hgo⟩

/-- An exchange itself changes the environment's side and the observations alone. -/
theorem Exchanged.eq {s u : State} (h : Exchanged s u) :
    u = { s with answers := u.answers, drawIx := u.drawIx, log := u.log } := by
  cases h with
  | silent => rfl
  | answered _ r => rw [dropAnswer_eq]; rfl

/-! ### What a step of SEQ observes -/

theorem arrive_log (s : State) (q : SeqState) :
    ∃ l, (s.arrive q).log = s.log ++ l ∧ (l = [] ∨ l = [.respond 0 0]) := by
  cases q
  case idle => exact ⟨_, rfl, .inr rfl⟩
  all_goals exact ⟨[], (List.append_nil _).symm, .inl rfl⟩

theorem Exchanged.log_eq {s u : State} (h : Exchanged s u) :
    ∃ l, u.log = s.log ++ l ∧ (l = [] ∨ ∃ e r, s.request = some e ∧ l = [e r]) := by
  cases h with
  | silent => exact ⟨[], (List.append_nil _).symm, .inl rfl⟩
  | answered he r => exact ⟨_, by rw [record_log, dropAnswer_log], .inr ⟨_, r, he, rfl⟩⟩

theorem absorb_log (q : SeqState) (r : Word) (s : State) : (q.absorb r s).log = s.log := by
  cases q
  case fa f n i => simp only [SeqState.absorb]; split_ifs <;> rfl
  case f7 f => simp only [SeqState.absorb, counted_eq]
  all_goals rfl

/-- At most the exchange that SEQ asks for and the response of a command that ends. -/
theorem seqStep_log {s : State} (hs : s.seq ≠ .idle) :
    ∃ io resp, (seqStep s).log = s.log ++ (io ++ resp) ∧
      (io = [] ∨ ∃ e r, s.request = some e ∧ io = [e r]) ∧ (resp = [] ∨ resp = [.respond 0 0]) := by
  obtain h | ⟨u, r, hu, h⟩ := seqStep_waits_or_proceeds hs
  · exact ⟨[], [], by simp [h], .inl rfl, .inl rfl⟩
  · obtain ⟨io, hio, hio'⟩ := hu.log_eq
    obtain ⟨resp, hresp, hresp'⟩ := arrive_log (s.seq.absorb r u) (s.seq.target r u)
    refine ⟨io, resp, ?_, hio', hresp'⟩
    rw [h, SeqState.proceed, hresp, absorb_log, hio, List.append_assoc]

/-! ### What a step of SEQ leaves -/

/-- The state apart from what belongs to a running sequencer command: what SEQ writes (10_state.md R27 column "SEQ
writes", R42), its place, the environment's answers and the observations. -/
def State.apartFromSeq (s : State) : State :=
  { s with
    lastShow := 0, fps := 0, frameCnt := 0, lastMark := 0, tok := [], enl := [], seq := .idle
    answers := [], drawIx := 0, log := [] }

theorem arrive_apartFromSeq (s : State) (q : SeqState) : (s.arrive q).apartFromSeq = s.apartFromSeq := by
  cases q <;> rfl

theorem absorb_apartFromSeq (q : SeqState) (r : Word) (s : State) :
    (q.absorb r s).apartFromSeq = s.apartFromSeq := by
  cases q
  case fa f n i => simp only [SeqState.absorb]; split_ifs <;> rfl
  case f7 f => simp only [SeqState.absorb, counted_eq]; rfl
  all_goals rfl

theorem seqStep_apartFromSeq {s : State} (hs : s.seq ≠ .idle) : (seqStep s).apartFromSeq = s.apartFromSeq := by
  obtain h | ⟨u, r, hu, h⟩ := seqStep_waits_or_proceeds hs
  · rw [h, dropAnswer_eq]; rfl
  · calc (seqStep s).apartFromSeq
      _ = (s.seq.proceed r u).apartFromSeq := by rw [h]
      _ = (s.seq.absorb r u).apartFromSeq := arrive_apartFromSeq ..
      _ = u.apartFromSeq := absorb_apartFromSeq ..
      _ = s.apartFromSeq := by rw [hu.eq]; rfl

/-- States that agree apart from what belongs to a running command. -/
theorem eq_of_apartFromSeq {s t : State} (h : t.apartFromSeq = s.apartFromSeq) :
    t = { s with
      lastShow := t.lastShow, fps := t.fps, frameCnt := t.frameCnt, lastMark := t.lastMark, tok := t.tok
      enl := t.enl, seq := t.seq, answers := t.answers, drawIx := t.drawIx, log := t.log } := by
  cases s; cases t
  simp_all [State.apartFromSeq]

/-- The stamp is written by its own step alone (42_sequencer.md R149). -/
theorem absorb_lastShow (q : SeqState) (r : Word) (s : State) :
    (q.absorb r s).lastShow = s.lastShow ∨ ∃ f, q = .f2s f := by
  cases q
  case f2s f => exact .inr ⟨f, rfl⟩
  all_goals left
  case fa f n i => simp only [SeqState.absorb]; split_ifs <;> rfl
  case f7 f => simp only [SeqState.absorb, counted_eq]
  all_goals rfl

/-- The estimator's registers are written by its own step alone (42_sequencer.md R158). -/
theorem absorb_estimator (q : SeqState) (r : Word) (s : State) :
    ((q.absorb r s).fps = s.fps ∧ (q.absorb r s).frameCnt = s.frameCnt ∧ (q.absorb r s).lastMark = s.lastMark) ∨
      ∃ f, q = .f7 f := by
  cases q
  case f7 f => exact .inr ⟨f, rfl⟩
  all_goals left
  case fa f n i => simp only [SeqState.absorb]; split_ifs <;> exact ⟨rfl, rfl, rfl⟩
  all_goals exact ⟨rfl, rfl, rfl⟩

theorem arrive_eq (s : State) (q : SeqState) : s.arrive q = { s with seq := q, log := (s.arrive q).log } := by
  cases q <;> rfl

theorem seqStep_lastShow {s : State} (hs : s.seq ≠ .idle) (h : (seqStep s).lastShow ≠ s.lastShow) :
    ∃ f, s.seq = .f2s f := by
  obtain hw | ⟨u, r, hu, hp⟩ := seqStep_waits_or_proceeds hs
  · exact absurd (by rw [hw, dropAnswer_lastShow]) h
  · refine (absorb_lastShow s.seq r u).resolve_left fun habs => h ?_
    rw [hp, SeqState.proceed, arrive_eq, hu.eq]
    rw [hu.eq] at habs
    exact habs

theorem seqStep_estimator {s : State} (hs : s.seq ≠ .idle)
    (h : (seqStep s).fps ≠ s.fps ∨ (seqStep s).frameCnt ≠ s.frameCnt ∨ (seqStep s).lastMark ≠ s.lastMark) :
    ∃ f, s.seq = .f7 f := by
  obtain hw | ⟨u, r, hu, hp⟩ := seqStep_waits_or_proceeds hs
  · simp [hw] at h
  · refine (absorb_estimator s.seq r u).resolve_left fun ⟨hfps, hcnt, hmark⟩ => ?_
    rw [hu.eq] at hfps hcnt hmark
    rw [hp, SeqState.proceed, arrive_eq, hu.eq] at h
    simp_all

/-! ### Waiting -/

/-- SEQ asks exactly in the states that the claims say await an answer. -/
theorem exists_request_of_awaitsAnswer {s : State} (h : AwaitsAnswer s) : ∃ e, s.request = some e := by
  unfold AwaitsAnswer at h
  cases hq : s.seq
  all_goals simp only [hq] at h
  case fb f n i => cases hk : f.kind <;> simp [State.request, hq, h, hk]
  all_goals simp_all [State.request, estimateDue]

theorem seqStep_unanswered {s : State} (h : AwaitsAnswer s) (ha : s.nextAnswer = none) :
    s.seq ≠ .idle ∧ seqStep s = s.dropAnswer := by
  obtain ⟨e, he⟩ := exists_request_of_awaitsAnswer h
  have hs : s.seq ≠ .idle := fun hq => by simp [State.request, hq] at he
  refine ⟨hs, ?_⟩
  rw [seqStep_eq hs, advance_asking rfl he]
  simp only [State.transact, ha]

/-- The parameters and the registers and arrays that SEQ writes are as they were. -/
structure SeqRegistersKept (s t : State) : Prop where
  params : t.params = s.params
  lastShow : t.lastShow = s.lastShow
  fps : t.fps = s.fps
  frameCnt : t.frameCnt = s.frameCnt
  lastMark : t.lastMark = s.lastMark
  tok : t.tok = s.tok
  enl : t.enl = s.enl

theorem exec_seqRegistersKept {i : Instr} {s t : State} (h : exec i s = .next t) : SeqRegistersKept s t := by
  obtain ⟨-, q, -, rfl⟩ | ⟨-, he⟩ := exec_cases h
  · exact ⟨rfl, rfl, rfl, rfl, rfl, rfl, rfl⟩
  · rw [he.frame]
    exact ⟨rfl, rfl, rfl, rfl, rfl, rfl, rfl⟩

/-- A step of an idle block writes none of them. -/
theorem step_seqRegistersKept {s t : State} (hs : s.seq = .idle) (hr : s.resetNow = false) (h : step s = .next t) :
    SeqRegistersKept s t := by
  obtain ⟨hr', -⟩ | ⟨-, hs', -⟩ | ⟨-, -, -, rfl⟩ | ⟨w, rest, i, -, -, -, -, hx⟩ | ⟨w, rest, e, -, -, -, -, rfl⟩ :=
    step_cases h
  · simp [hr] at hr'
  · exact absurd hs hs'
  · exact ⟨rfl, rfl, rfl, rfl, rfl, rfl, rfl⟩
  · obtain ⟨hp, hshow, hfps, hcnt, hmark, htok, henl⟩ := exec_seqRegistersKept hx
    exact ⟨hp, hshow, hfps, hcnt, hmark, htok, henl⟩
  · exact ⟨rfl, rfl, rfl, rfl, rfl, rfl, rfl⟩

/-! ### The statements -/

/-- Settles O7: SEQ's registers and arrays are all that its step writes, and it observes one exchange and one response
at most. -/
theorem sequencerStepFrame : Obligations.SequencerStepFrame := by
  intro s t hs hr ht
  obtain ⟨hr', -⟩ | ⟨-, -, rfl⟩ | ⟨-, hs', -⟩ | ⟨_, _, _, -, hs', -⟩ | ⟨_, _, _, -, hs', -⟩ := step_cases ht
  · simp [hr] at hr'
  · refine ⟨eq_of_apartFromSeq (seqStep_apartFromSeq (s := s.tick) hs), ?_⟩
    obtain ⟨io, resp, hlog, hio, hresp⟩ := seqStep_log (s := s.tick) hs
    refine ⟨io ++ resp, hlog, ?_⟩
    obtain rfl | ⟨_, _, -, rfl⟩ := hio <;> obtain rfl | rfl := hresp <;> simp
  all_goals exact absurd hs' hs

/-- Settles O12: SEQ leaves `ERR`, and a command or a refusal sets at most one of its bits. -/
theorem errBitsAreSticky : Obligations.ErrBitsAreSticky := by
  intro s t hr ht
  obtain ⟨hr', -⟩ | ⟨-, hs, rfl⟩ | ⟨-, -, -, rfl⟩ | ⟨w, rest, i, -, -, -, -, hx⟩ | ⟨w, rest, e, -, -, -, -, rfl⟩ :=
    step_cases ht
  · simp [hr] at hr'
  · rw [eq_of_apartFromSeq (seqStep_apartFromSeq (s := s.tick) hs)]
    exact ⟨id, id⟩
  · exact ⟨id, id⟩
  · obtain ⟨-, q, -, rfl⟩ | ⟨-, he⟩ := exec_cases hx
    · exact ⟨id, id⟩
    · exact ⟨fun h => by rw [he.frame]; exact h, he.errCsre⟩
  · simp

/-- Settles O13: a reset keeps the parameters, a command leaves SEQ's registers, and a step of SEQ writes the stamp
and the estimator's registers in their own steps alone. -/
theorem writersOfEachRegister : Obligations.WritersOfEachRegister := by
  intro s t ht
  cases hr : s.resetNow with
  | true =>
    cases (step_of_resetNow hr).symm.trans ht
    exact ⟨rfl, fun h => nomatch h⟩
  | false =>
    by_cases hs : s.seq = .idle
    · have hk := step_seqRegistersKept hs hr ht
      exact ⟨hk.params, fun _ => ⟨fun h => absurd hs h, fun h => absurd hk.lastShow h,
        by simp [hk.fps, hk.frameCnt, hk.lastMark]⟩⟩
    · obtain ⟨hframe, -⟩ := sequencerStepFrame s t hs hr ht
      have hstep : t = seqStep s.tick := by
        simpa [step, hr, hs] using ht.symm
      refine ⟨by rw [hframe], fun _ => ⟨fun _ => by rw [hframe]; exact ⟨rfl, rfl, rfl, rfl, rfl, rfl, rfl, rfl, rfl⟩,
        fun h => ?_, fun h => ?_⟩⟩
      · rw [hstep] at h
        exact seqStep_lastShow (s := s.tick) hs h
      · rw [hstep] at h
        exact seqStep_estimator (s := s.tick) hs h

/-- Settles O54: SEQ asks, and without an answer it only uses the environment's turn up. -/
theorem unansweredTransactionWaits : Obligations.UnansweredTransactionWaits := by
  intro s rest h hr ha
  obtain ⟨hs, hwait⟩ := seqStep_unanswered h (by simp [State.nextAnswer, ha])
  rw [step_running hs hr, hwait]
  simp [State.dropAnswer, ha]

end Sys2Proof.Machine
end

section
/-! PROOF. The invariant, and what may be observed (O58 to O60; 10_state.md R30, R42, R45, R47, 20_memory.md R71, R72,
42_sequencer.md R142, R147, R150 to R158, 60_exceptions.md R260). -/

namespace Sys2Proof.Machine

/-! ### States that meet the invariant -/

theorem resetOf_inv {p : Params} (hp : p.wellFormed = true) : (State.resetOf p).Inv where
  params := hp
  tokSize := List.length_replicate
  enlSize := List.length_replicate
  frameCnt := Nat.zero_le _
  fps := Nat.zero_le _
  seq := trivial

theorem standard_wellFormed : Params.standard.wellFormed = true := by decide +kernel

/-- The invariant speaks of the parameters and of what belongs to a running command. -/
theorem State.Inv.of_seqRegistersKept {s t : State} (h : s.Inv) (hk : SeqRegistersKept s t) (hq : t.seqLegal) :
    t.Inv where
  params := by rw [hk.params]; exact h.params
  tokSize := by rw [hk.tok, hk.params]; exact h.tokSize
  enlSize := by rw [hk.enl, hk.params]; exact h.enlSize
  frameCnt := by rw [hk.frameCnt]; exact h.frameCnt
  fps := by rw [hk.fps]; exact h.fps
  seq := hq

theorem seqLegal_of_idle {s : State} (hs : s.seq = .idle) : s.seqLegal := by
  simp only [State.seqLegal, hs]

/-- A command that SEQ accepts starts it legally. -/
theorem seqLegal_goto_of_accepts {q : SeqState} (hq : Accepts q) (s : State) : (s.goto q).seqLegal := by
  cases hq with
  | frame f hf => exact fun hd => absurd hf hd
  | delay ms => trivial

/-- The invariant says nothing of the environment's side. -/
theorem inv_environment {s : State} (h : s.Inv) (a : List (Option Word)) (k : Nat) (l : List IoEvent) :
    State.Inv { s with answers := a, drawIx := k, log := l } :=
  ⟨h.params, h.tokSize, h.enlSize, h.frameCnt, h.fps, h.seq⟩

theorem Exchanged.inv {s u : State} (hu : Exchanged s u) (h : s.Inv) : u.Inv := by
  rw [hu.eq]
  exact inv_environment h ..

theorem dropAnswer_inv {s : State} (h : s.Inv) : s.dropAnswer.Inv := by
  rw [dropAnswer_eq]
  exact inv_environment h ..

theorem tick_inv {s : State} (h : s.Inv) : s.tick.Inv :=
  ⟨h.params, h.tokSize, h.enlSize, h.frameCnt, h.fps, h.seq⟩

/-- Within the walk bound an index is one of the arrays'. -/
theorem State.Inv.index_lt {s : State} (h : s.Inv) {i : Nat} (hi : i < s.walkBound) :
    i < s.enl.length ∧ i < s.tok.length ∧ i < 256 := by
  have hp := h.params
  simp only [Params.wellFormed, Params.controllersLegal, Bool.and_eq_true, decide_eq_true_eq] at hp
  have hbound : i < s.params.maxControllers := hi.trans_le (Nat.min_le_right ..)
  rw [h.enlSize, h.tokSize]
  omega

/-! ### Null tokens (42_sequencer.md R151) -/

theorem nullBelow_zero (s : State) : s.nullBelow 0 := fun _ hj => absurd hj (Nat.not_lt_zero _)

theorem nullBelow_succ {s : State} {i : Nat} (h : s.nullBelow i) (hi : s.enabled i = false → s.token i = 0) :
    s.nullBelow (i + 1) := by
  intro j hj
  obtain hlt | rfl := Nat.lt_succ_iff_lt_or_eq.1 hj
  · exact h j hlt
  · exact hi

theorem nullBelow_setEnabled {s : State} {i : Nat} (h : s.nullBelow i) (hi : i < s.enl.length) (b : Bool) :
    (s.setEnabled i b).nullBelow i := by
  intro j hj he
  rw [enabled_setEnabled s i j b hi, if_neg hj.ne] at he
  exact h j hj he

theorem nullBelow_setToken {s : State} {i : Nat} (h : s.nullBelow i) (hi : i < s.tok.length) (t : Word) :
    (s.setToken i t).nullBelow i := by
  intro j hj he
  rw [token_setToken s i j t hi, if_neg hj.ne]
  exact h j hj he

/-! ### The estimator's bounds (10_state.md R47) -/

theorem counted_frameCnt_le (s : State) (r : Word) : (s.counted r).frameCnt.toNat ≤ 65534 := by
  rw [counted_eq]
  by_cases hd : estimateDue s = true
  · simp [hd]
  · have hlt : s.frameCnt.toNat + 1 < s.nFrames.toNat := by simpa [estimateDue] using hd
    have := s.nFrames.isLt
    simp only [hd, Bool.false_eq_true, if_false, BitVec.toNat_ofNat]
    omega

theorem counted_fps_le {s : State} (h : s.fps.toNat ≤ 65535000) (r : Word) : (s.counted r).fps.toNat ≤ 65535000 := by
  rw [counted_eq]
  by_cases hd : estimateDue s = true
  · have := s.nFrames.isLt
    simp only [hd, if_true, BitVec.toNat_ofNat]
    calc s.nFrames.toNat * 1000 / elapsedMs s r % 2 ^ 32
      _ ≤ s.nFrames.toNat * 1000 / elapsedMs s r := Nat.mod_le ..
      _ ≤ s.nFrames.toNat * 1000 := Nat.div_le_self ..
      _ ≤ 65535000 := by omega
  · simpa [hd] using h

/-! ### A step of SEQ keeps the invariant -/

theorem absorb_sizes (q : SeqState) (r : Word) (s : State) :
    (q.absorb r s).tok.length = s.tok.length ∧ (q.absorb r s).enl.length = s.enl.length := by
  cases q
  case fa f n i => simp only [SeqState.absorb]; split_ifs <;> simp
  case faBegin f n i size => simp [SeqState.absorb]
  case f7 f => simp only [SeqState.absorb, counted_eq, and_self]
  all_goals exact ⟨rfl, rfl⟩

theorem absorb_bounds (q : SeqState) (r : Word) {s : State} (hcnt : s.frameCnt.toNat ≤ 65534)
    (hfps : s.fps.toNat ≤ 65535000) :
    (q.absorb r s).frameCnt.toNat ≤ 65534 ∧ (q.absorb r s).fps.toNat ≤ 65535000 := by
  obtain ⟨hfps', hcnt', -⟩ | ⟨f, rfl⟩ := absorb_estimator q r s
  · rw [hfps', hcnt']
    exact ⟨hcnt, hfps⟩
  · exact ⟨counted_frameCnt_le s r, counted_fps_le hfps r⟩

/-- Where a step of SEQ goes, its variables are legal. -/
theorem target_legal {s : State} (h : s.Inv) (r : Word) :
    ((s.seq.absorb r s).goto (s.seq.target r s)).seqLegal := by
  have hq := h.seq
  unfold State.seqLegal at hq
  cases hs : s.seq
  all_goals simp only [hs] at hq
  case idle | delayStart | delayYield => trivial
  case f1 | f2s | f7 | f8a => exact hq
  case delayTop d =>
    simp only [SeqState.target]
    split
    · exact fun _ => ⟨rfl, rfl⟩
    · trivial
  case delaySleep d m0 =>
    simp only [SeqState.target]
    split
    · exact fun _ => ⟨rfl, rfl⟩
    · trivial
  case delayTest d => simp only [SeqState.target]; split <;> trivial
  case f2w f => simp only [SeqState.target]; split <;> exact hq
  case f3 f =>
    refine ⟨?_, rfl, Nat.zero_le _, nullBelow_zero _⟩
    split <;> exact hq
  case fa f n i =>
    obtain ⟨hf, hn, hi, hnull⟩ := hq
    simp only [SeqState.absorb, SeqState.target]
    split
    next hlt =>
      obtain ⟨henl, htok, -⟩ := h.index_lt (hn ▸ hlt)
      have hoff := nullBelow_setEnabled hnull henl
      split
      · exact ⟨hf, hn, hlt, hoff true, by simp [enabled_setEnabled s i i true henl]⟩
      · refine ⟨hf, hn, hlt, nullBelow_succ (nullBelow_setToken (hoff false) htok 0) fun _ => ?_⟩
        exact (token_setToken (s.setEnabled i false) i i 0 htok).trans (if_pos rfl)
    next hlt =>
      obtain rfl : i = n := by omega
      exact ⟨hf, hn, Nat.zero_le _, hnull⟩
  case faSize f n i => exact hq
  case faBegin f n i size =>
    obtain ⟨hf, hn, hi, hnull, hon⟩ := hq
    obtain ⟨-, htok, -⟩ := h.index_lt (hn ▸ hi)
    exact ⟨hf, hn, hi, nullBelow_succ (nullBelow_setToken hnull htok r) fun hoff => nomatch hon.symm.trans hoff⟩
  case faDither f n i => exact hq
  case fb f n i =>
    obtain ⟨hf, hn, hi, hnull⟩ := hq
    simp only [SeqState.target]
    split
    next hlt => exact ⟨hf, hn, hlt, hnull⟩
    next => exact ⟨hf, hn, Nat.zero_le _, hnull⟩
  case fc f n i =>
    obtain ⟨hf, hn, hi, hnull⟩ := hq
    simp only [SeqState.target]
    split
    next hlt => exact ⟨hf, hn, hlt, hnull⟩
    next => exact hf
  case f8b f => simp only [SeqState.target]; cases f.delay <;> trivial

theorem proceed_inv {s : State} (h : s.Inv) (r : Word) : (s.seq.proceed r s).Inv := by
  have hparams : (s.seq.absorb r s).params = s.params := by
    rw [eq_of_apartFromSeq (absorb_apartFromSeq s.seq r s)]
  obtain ⟨htok, henl⟩ := absorb_sizes s.seq r s
  obtain ⟨hcnt, hfps⟩ := absorb_bounds s.seq r h.frameCnt h.fps
  have hgoto : ((s.seq.absorb r s).goto (s.seq.target r s)).Inv :=
    ⟨(congrArg _ hparams).trans h.params, htok.trans (h.tokSize.trans (congrArg _ hparams.symm)),
      henl.trans (h.enlSize.trans (congrArg _ hparams.symm)), hcnt, hfps, target_legal h r⟩
  rw [SeqState.proceed, arrive_eq]
  exact inv_environment hgoto ..

theorem seqStep_inv {s : State} (hs : s.seq ≠ .idle) (h : s.Inv) : (seqStep s).Inv := by
  obtain hw | ⟨u, r, hu, hp⟩ := seqStep_waits_or_proceeds hs
  · rw [hw]
    exact dropAnswer_inv h
  · have hq : u.seq = s.seq := by rw [hu.eq]
    rw [hp, ← hq]
    exact proceed_inv (hu.inv h) r

/-! ### What SEQ asks for is allowed -/

/-- The index field of a controller transaction is the controller's index. -/
theorem State.Inv.index_toNat {s : State} (h : s.Inv) {i : Nat} (hi : i < s.walkBound) : (BitVec.ofNat 8 i).toNat = i :=
  Nat.mod_eq_of_lt (h.index_lt hi).2.2

theorem request_allowed {s : State} (h : s.Inv) {e : Word → IoEvent} (he : s.request = some e) (r : Word) :
    (e r).allowedFrom s := by
  have hq := h.seq
  unfold State.seqLegal at hq
  cases hs : s.seq
  all_goals simp only [State.request, hs, reduceCtorEq, Option.some.injEq, Option.ite_none_left_eq_some,
    Option.ite_none_right_eq_some] at he hq
  case delayStart | delaySleep | f2s | f8a | delayYield | delayTest => subst he; trivial
  case delayTop | f2w | f7 => obtain ⟨-, rfl⟩ := he; trivial
  case f1 | f8b => obtain ⟨hm, rfl⟩ := he; exact eq_false_of_ne_true hm
  case f3 f => obtain ⟨hp, rfl⟩ := he; exact ⟨hp, rfl⟩
  case fa f n i =>
    obtain ⟨-, rfl, -⟩ := hq
    obtain ⟨hi, rfl⟩ := he
    exact ⟨by rwa [h.index_toNat hi], rfl, rfl⟩
  case faSize f n i =>
    obtain ⟨-, rfl, hi, -⟩ := hq
    subst he
    exact ⟨by rwa [h.index_toNat hi], rfl, rfl⟩
  case faBegin f n i size =>
    obtain ⟨-, rfl, hi, -⟩ := hq
    subst he
    refine ⟨by rwa [h.index_toNat hi], ?_, rfl⟩
    rw [BitVec.toNat_setWidth_of_le (by decide)]
    exact size.isLt
  case faDither f n i =>
    obtain ⟨-, rfl, hi, -⟩ := hq
    obtain ⟨hfps, rfl⟩ := he
    exact ⟨by rwa [h.index_toNat hi], rfl, rfl, hfps⟩
  case fb f n i =>
    obtain ⟨-, rfl, -⟩ := hq
    obtain ⟨⟨hi, hon⟩, he⟩ := he
    have hidx := h.index_toNat hi
    cases hk : f.kind
    all_goals simp only [hk, Option.some.injEq] at he; subst he
    · exact ⟨by rwa [hidx], rfl, by rwa [hidx]⟩
    · refine ⟨by rwa [hidx], ?_, by rwa [hidx]⟩
      rw [BitVec.toNat_setWidth_of_le (by decide)]
      exact f.color.isLt
  case fc f n i =>
    obtain ⟨-, rfl, -⟩ := hq
    obtain ⟨⟨hi, hon⟩, rfl⟩ := he
    have hidx := h.index_toNat hi
    exact ⟨by rwa [hidx], by rw [hidx], rfl, by rwa [hidx]⟩

/-! ### The statements -/

/-- Settles O58: every field at its reset value, the arrays as long as the parameters say. -/
theorem resetMeetsInv : Obligations.ResetMeetsInv :=
  ⟨resetOf_inv standard_wellFormed, fun _ hp => resetOf_inv hp⟩

/-- Settles O59: a reset gives the reset state's fields, a step of SEQ keeps its variables legal, and a step of an idle
block writes none of what the invariant speaks of but SEQ's place. -/
theorem stepKeepsInv : Obligations.StepKeepsInv := by
  intro s t h ht
  cases hr : s.resetNow with
  | true =>
    cases (step_of_resetNow hr).symm.trans ht
    obtain ⟨hparams, htok, henl, hcnt, hfps, hseq⟩ := resetOf_inv h.params
    exact ⟨hparams, htok, henl, hcnt, hfps, hseq⟩
  | false =>
    obtain ⟨hr', -⟩ | ⟨-, hs, rfl⟩ | ⟨-, hs, -, rfl⟩ | ⟨w, rest, i, -, hs, -, -, hx⟩ | ⟨w, rest, e, -, hs, -, -, rfl⟩ :=
      step_cases ht
    · simp [hr] at hr'
    · exact seqStep_inv (s := s.tick) hs (tick_inv h)
    · exact tick_inv h
    · refine h.of_seqRegistersKept (step_seqRegistersKept hs hr ht) ?_
      obtain ⟨-, q, hq, rfl⟩ | ⟨-, he⟩ := exec_cases hx
      · exact seqLegal_goto_of_accepts hq _
      · exact seqLegal_of_idle (by rw [he.frame]; exact hs)
    · exact h.of_seqRegistersKept (step_seqRegistersKept hs hr ht) (seqLegal_of_idle (by simpa using hs))

/-- Settles O60: SEQ observes what it asks for and the response `(0, 0)`, an idle block the one response of a command
or of a refusal. -/
theorem onlyAllowedObservations : Obligations.OnlyAllowedObservations := by
  intro s t h ht
  obtain ⟨-, rfl⟩ | ⟨-, hs, rfl⟩ | ⟨-, -, -, rfl⟩ | ⟨w, rest, i, -, -, -, -, hx⟩ | ⟨w, rest, e, -, -, -, -, rfl⟩ :=
    step_cases ht
  · exact ⟨[], (List.append_nil _).symm, by simp⟩
  · obtain ⟨io, resp, hlog, hio, hresp⟩ := seqStep_log (s := s.tick) hs
    refine ⟨io ++ resp, hlog, fun e he => ?_⟩
    obtain he | he := List.mem_append.1 he
    · obtain rfl | ⟨req, r, hreq, rfl⟩ := hio
      · simp at he
      · obtain rfl := List.mem_singleton.1 he
        exact request_allowed (tick_inv h) hreq r
    · obtain rfl | rfl := hresp
      · simp at he
      · obtain rfl := List.mem_singleton.1 he
        exact ⟨by decide, fun h => absurd rfl h⟩
  · exact ⟨[], (List.append_nil _).symm, by simp⟩
  · obtain ⟨-, q, -, rfl⟩ | ⟨-, he⟩ := exec_cases hx
    · exact ⟨[], (List.append_nil _).symm, by simp⟩
    · obtain ⟨st, d, hlog, hst, hd⟩ := he.log_eq
      exact ⟨_, hlog, fun e he => by obtain rfl := List.mem_singleton.1 he; exact ⟨hst, hd⟩⟩
  · exact ⟨[.respond 1 0], rfl, fun e he => by
      obtain rfl := List.mem_singleton.1 he; exact ⟨by decide, fun _ => rfl⟩⟩

end Sys2Proof.Machine
end

section
/-! PROOF. The floor between stamps and the `DELAY` loop (O48, O53, O57; 42_sequencer.md R148, R149, R165, R166,
70_reset_and_hazards.md R304). -/

namespace Sys2Proof.Machine

/-! ### The steps of `DELAY` (R165, R166; log 9) -/

/-- The clock has moved exactly when the sample differs from the first one (R166). -/
theorem one_le_toNat_sub_iff (m m0 : Word) : 1 ≤ (m - m0).toNat ↔ m ≠ m0 := by
  rw [toNat_sub_eq, ne_eq, ← BitVec.toNat_inj]
  omega

section Steps
variable {s : State} {d : DelayCtx} (hr : s.resetIn = [])
include hr

theorem steps_delayStart (ms r : Word) :
    Steps (s.goto (.delayStart ms)) [(r, .ms r)] (·.goto (.delayTop { start := r, ms := ms })) :=
  steps_of_seqStep hr fun _ _ => by simp [seqStep, stepDelayStart]

theorem steps_delayTop_accurate (hc : s.params.accurateClock = true) :
    Steps (s.goto (.delayTop d)) [] fun t => t.goto (.f1 (t.delayFrame d)) :=
  steps_of_seqStep hr fun _ _ => by
    simp [seqStep, stepDelayTop, hc, State.beginDelayFrame, State.delayFrame]

theorem steps_delayTop_sample (hc : s.params.accurateClock = false) (m0 : Word) :
    Steps (s.goto (.delayTop d)) [(m0, .ms m0)] (·.goto (.delaySleep d m0)) :=
  steps_of_seqStep hr fun _ _ => by simp [seqStep, stepDelayTop, hc]

theorem steps_delaySleep (m0 m : Word) :
    Steps (s.goto (.delaySleep d m0)) [(m, .ms m)] fun t =>
      t.goto (if m = m0 then .delaySleep d m0 else .f1 (t.delayFrame d)) :=
  steps_of_seqStep hr fun _ _ => by
    simp only [List.map_cons, List.map_nil, List.cons_append, List.nil_append, seqStep, goto_seq, facing_seq,
      stepDelaySleep, facing_transact, one_le_toNat_sub_iff, ite_not]
    split <;> rfl

theorem steps_delayYield (ack : Word) :
    Steps (s.goto (.delayYield d)) [(ack, .yld)] (·.goto (.delayTest d)) :=
  steps_of_seqStep hr fun _ _ => by simp [seqStep, stepDelayYield]

theorem steps_delayTest (now : Word) :
    Steps (s.goto (.delayTest d)) [(now, .ms now)] fun t =>
      if d.ms.toNat ≤ (now - d.start).toNat then (t.goto .idle).respond 0 else t.goto (.delayTop d) :=
  steps_of_seqStep hr fun _ _ => by simp [seqStep, stepDelayTest, -BitVec.toNat_sub]

/-! ### The parts of an iteration (R165) -/

theorem performs_delaySleep_same (m0 : Word) (same : Nat) :
    Performs (s.goto (.delaySleep d m0)) (List.replicate same (m0, .ms m0)) (s.goto (.delaySleep d m0)) := by
  induction same with
  | zero => exact Performs.refl _
  | succ n ih =>
    have hfirst : Performs (s.goto (.delaySleep d m0)) [(m0, .ms m0)] (s.goto (.delaySleep d m0)) :=
      (steps_delaySleep hr m0 m0).performs fun _ _ => by rw [if_pos rfl]; rfl
    exact hfirst.trans ih

/-- From the head of the loop to the frame. -/
theorem performs_delayTop (m0 : Word) (same : Nat) {m : Word} (hm : m ≠ m0) :
    Performs (s.goto (.delayTop d)) (if s.params.accurateClock then [] else sleepIo m0 same m)
      (s.goto (.f1 (s.delayFrame d))) := by
  cases hc : s.params.accurateClock with
  | true => exact (steps_delayTop_accurate hr hc).performs fun _ _ => rfl
  | false =>
    have hfirst : Performs (s.goto (.delayTop d)) [(m0, .ms m0)] (s.goto (.delaySleep d m0)) :=
      (steps_delayTop_sample hr hc m0).performs fun _ _ => rfl
    have hmoved : Performs (s.goto (.delaySleep d m0)) [(m, .ms m)] (s.goto (.f1 (s.delayFrame d))) :=
      (steps_delaySleep hr m0 m).performs fun _ _ => by rw [if_neg hm]; rfl
    exact hfirst.trans ((performs_delaySleep_same hr m0 same).trans hmoved)

/-- The frame of an iteration. -/
theorem performs_delayFrame {a : FrameAnswers} (htok : s.tok.length = s.params.maxControllers)
    (henl : s.enl.length = s.params.maxControllers) (hcnt : s.frameCnt.toNat ≤ 65534) (hfit : a.fit s) :
    Performs (s.goto (.f1 (s.delayFrame d))) (frameIo s (s.delayFrame d) a)
      ((frameEnd s (s.delayFrame d) a []).goto (.delayYield d)) := by
  intro rest log
  obtain ⟨k, hk⟩ := frameRunsToItsEnd ((s.goto (.f1 (s.delayFrame d))).facing
    ((frameIo s (s.delayFrame d) a).map (fun x => some x.1) ++ rest) log) (s.delayFrame d) a rest rfl hr htok henl hcnt
    hfit rfl
  refine ⟨k, hk.trans ?_⟩
  simp only [frameEnd, State.delayFrame, List.append_nil]
  rfl

end Steps

/-! ### The statements -/

/-- A sample in the floor wait does not lead to power scaling at once: the stamp is still to come (R148). -/
theorem seq_after_f2w_ne_f3 {s u : State} {f : Frame} {t : Word} {rest : List (Option Word)} (hs : s.seq = .f2w f)
    (hm : s.minMicros ≠ 0) (hr : s.resetIn = []) (ha : s.answers = some t :: rest)
    (hrun : Host.Core.run core 1 s = .next u) : u.seq ≠ .f3 f := by
  by_cases hw : (t - s.lastShow).toNat < s.minMicros.toNat
  · cases (run_succ ((steps_f2w_wait hr hm hw).step_eq hs ha) 0).symm.trans hrun
    simp
  · cases (run_succ ((steps_f2w_reached hr hm hw).step_eq hs ha) 0).symm.trans hrun
    simp

/-- Settles O48: the two steps are the last sample of the wait, which reached the floor, and the stamp, which is not
before it. -/
theorem stampsKeepTheFloor : Obligations.StampsKeepTheFloor := by
  intro s u f t1 t2 rest hs hm hr ha hrun hu hle
  by_cases hw : (t1 - s.lastShow).toNat < s.minMicros.toNat
  · rw [run_succ ((steps_f2w_wait hr hm hw).step_eq hs ha)] at hrun
    exact absurd hu (seq_after_f2w_ne_f3 (s := (s.facing (some t2 :: rest) _).goto (.f2w f)) rfl hm hr rfl hrun)
  · rw [run_succ ((steps_f2w_reached hr hm hw).step_eq hs ha)] at hrun
    have hstamp := (steps_f2s (s := (s.facing (some t2 :: rest) (s.log ++ [.us t1])).goto (.f2s f)) (f := f) hr
      t2).step_eq rfl rfl
    cases (run_succ hstamp 0).symm.trans hrun
    exact ⟨rfl, (Nat.le_of_not_lt hw).trans hle⟩

/-- Settles O53: the steps of the loop, each for an answer that is ready. -/
theorem delayLoopSteps : Obligations.DelayLoopSteps := by
  intro s d ms m0 r rest ⟨ha, hr⟩ frame
  refine ⟨fun hs => (steps_delayStart hr ms r).step_eq hs ha,
    fun hs hc => (steps_delayTop_accurate hr hc).step_eq_silent hs,
    fun hs hc => (steps_delayTop_sample hr hc r).step_eq hs ha,
    fun hs => (steps_delaySleep hr m0 r).step_eq hs ha,
    fun hs => (steps_delayYield hr r).step_eq hs ha, fun hs he => ?_, fun hs he => ?_⟩
  all_goals rw [← toNat_sub_eq] at he
  · rw [(steps_delayTest hr r).step_eq hs ha, if_pos he]
    simp [State.facing, State.goto, State.respond, State.record]
  · rw [(steps_delayTest hr r).step_eq hs ha, if_neg (Nat.not_le_of_lt he)]
    rfl

/-- Settles O57: the sleep, the frame and the yield are performed, and the step of the last sample ends the command or
goes back to the head. -/
theorem delayIterationRuns : Obligations.DelayIterationRuns := by
  intro s d m0 m now yieldAck same a rest f before after hs hr hm htok henl hcnt hfit ha
  have hyield : Performs ((frameEnd s f a []).goto (.delayYield d)) [(yieldAck, .yld)]
      ((frameEnd s f a []).goto (.delayTest d)) :=
    (steps_delayYield (s := frameEnd s f a []) hr yieldAck).performs fun _ _ => rfl
  have hrun := performs_delayTop (d := d) hr m0 same hm
    |>.trans (performs_delayFrame hr htok henl hcnt hfit)
    |>.trans hyield
  rw [goto_self hs] at hrun
  have hio : before ++ frameIo s f a ++ [(yieldAck, .yld)] ++ [(now, .ms now)] = before ++ frameIo s f a ++ after :=
    List.append_assoc ..
  rw [← hio] at ha ⊢
  obtain ⟨k, hk⟩ := hrun.run_then_step (steps_delayTest (s := frameEnd s f a []) (d := d) hr now) ha
  exact ⟨k, hk⟩

end Sys2Proof.Machine
end

section
/-! PROOF. Ranges and shapes of the ALU results (O23, O25, O26; 41_alu.md R110 to R122). -/

namespace Sys2Proof.Machine

/-! ### Results as numbers -/

/-- The register that a command writes. -/
theorem reg_of_exec {i : Instr} {s t : State} {rd : Reg} {v : Word} (h : exec i s = .next (s.writeResult rd v))
    (ht : exec i s = .next t) : t.reg rd = v :=
  (completes_of_writeResult h rfl).reg ht

/-- The signed range of a width: 16 or 8 bits (00_scope.md R7). -/
def InRange (w : Width) (v : Int) : Prop := -(w.step : Int) ≤ v ∧ v < w.step

theorem step_le (w : Width) : w.step ≤ 32768 := by
  cases w <;> decide

/-- A signed result of a width is read back as itself. -/
theorem toInt_signedResult {w : Width} {v : Int} (h : InRange w v) : (signedResult v).toInt = v := by
  have hstep := step_le w
  obtain ⟨hlo, hhi⟩ := h
  exact BitVec.toInt_ofInt_eq_self (by decide) (by omega) (by omega)

/-- An unsigned result is read back as itself. -/
theorem toNat_unsignedResult {v : Nat} (h : v < 2 ^ 32) : (unsignedResult v).toNat = v :=
  Nat.mod_eq_of_lt h

/-! ### Lerp -/

theorem lerp_between (w : Width) {f : Nat} (hf : f < 2 ^ w.bits) (a b : Int) :
    min a b ≤ w.lerp a b f ∧ w.lerp a b f ≤ max a b := by
  cases w
  · exact lerpBy_between (fun v => scale16_le v hf) a b
  · exact lerpBy_between (fun v => scale8_le v hf) a b

theorem lerp_inRange {w : Width} {a b : Int} {f : Nat} (ha : InRange w a) (hb : InRange w b) (hf : f < 2 ^ w.bits) :
    InRange w (w.lerp a b f) := by
  obtain ⟨hlo, hhi⟩ := lerp_between w hf a b
  obtain ⟨halo, hahi⟩ := ha
  obtain ⟨hblo, hbhi⟩ := hb
  exact ⟨by omega, by omega⟩

/-- What a lerp command writes lies between its ends, and is its first end at fraction 0. -/
theorem signedResult_lerp {w : Width} {a b : Int} {f : Nat} (ha : InRange w a) (hb : InRange w b)
    (hf : f < 2 ^ w.bits) :
    min a b ≤ (signedResult (w.lerp a b f)).toInt ∧ (signedResult (w.lerp a b f)).toInt ≤ max a b ∧
      (f = 0 → (signedResult (w.lerp a b f)).toInt = a) := by
  rw [toInt_signedResult (lerp_inRange ha hb hf)]
  obtain ⟨hlo, hhi⟩ := lerp_between w hf a b
  exact ⟨hlo, hhi, fun h0 => by rw [h0, lerp_zero]⟩

theorem s8_inRange (s : State) (r : Reg) : InRange .narrow (s.s8 r) :=
  ⟨(s8_range s r).1, Int.lt_of_le_sub_one (s8_range s r).2⟩

theorem s16_inRange (s : State) (r : Reg) : InRange .wide (s.s16 r) :=
  ⟨(s16_range s r).1, Int.lt_of_le_sub_one (s16_range s r).2⟩

/-! ### Ease -/

/-- Below the middle of `w` the doubled scaled square does not exceed its root. -/
theorem scaledSquare_double_le {j w : Nat} (hj : 2 * j < w) : j * j / w * 2 ≤ j := by
  have hsq : j * j / w * w ≤ j * j := Nat.div_mul_le_self ..
  by_contra hgt
  nlinarith

theorem scaledSquare_mono {i j : Nat} (hij : i ≤ j) (w : Nat) : i * i / w * 2 ≤ j * j / w * 2 :=
  Nat.mul_le_mul_right 2 (Nat.div_le_div_right (Nat.mul_le_mul hij hij))

section Ease
variable {k i j : Nat}

theorem easeSpec_low (hi : i < 2 ^ k) : easeSpec (k + 1) i = i * i / 2 ^ (k + 1) * 2 := if_pos hi

theorem easeSpec_high (hi : ¬ i < 2 ^ k) : easeSpec (k + 1) i =
    2 ^ (k + 1) - 1 - (2 ^ (k + 1) - 1 - i) * (2 ^ (k + 1) - 1 - i) / 2 ^ (k + 1) * 2 := if_neg hi

theorem easeSpec_mono (hij : i ≤ j) (hj : j < 2 ^ (k + 1)) : easeSpec (k + 1) i ≤ easeSpec (k + 1) j := by
  have hw : 2 ^ (k + 1) = 2 * 2 ^ k := Nat.pow_succ'
  by_cases hjlow : j < 2 ^ k
  · rw [easeSpec_low hjlow, easeSpec_low (by omega)]
    exact scaledSquare_mono hij _
  · rw [easeSpec_high hjlow]
    by_cases hilow : i < 2 ^ k
    · have hi := scaledSquare_double_le (show 2 * i < 2 ^ (k + 1) by omega)
      have hj' := scaledSquare_double_le (show 2 * (2 ^ (k + 1) - 1 - j) < 2 ^ (k + 1) by omega)
      rw [easeSpec_low hilow]
      omega
    · rw [easeSpec_high hilow]
      exact Nat.sub_le_sub_left (scaledSquare_mono (by omega) _) _

/-- The ease is symmetric about the middle. -/
theorem easeSpec_compl (hi : i < 2 ^ (k + 1)) :
    easeSpec (k + 1) (2 ^ (k + 1) - 1 - i) = 2 ^ (k + 1) - 1 - easeSpec (k + 1) i := by
  have hw : 2 ^ (k + 1) = 2 * 2 ^ k := Nat.pow_succ'
  have hback : 2 ^ (k + 1) - 1 - (2 ^ (k + 1) - 1 - i) = i := by omega
  by_cases hlow : i < 2 ^ k
  · rw [easeSpec_high (by omega), hback, easeSpec_low hlow]
  · have hle := scaledSquare_double_le (show 2 * (2 ^ (k + 1) - 1 - i) < 2 ^ (k + 1) by omega)
    rw [easeSpec_low (by omega), easeSpec_high hlow]
    omega

/-- Even below the middle, odd from it on. -/
theorem easeSpec_mod_two (hi : i < 2 ^ (k + 1)) : easeSpec (k + 1) i % 2 = if i < 2 ^ k then 0 else 1 := by
  have hw : 2 ^ (k + 1) = 2 * 2 ^ k := Nat.pow_succ'
  by_cases hlow : i < 2 ^ k
  · rw [easeSpec_low hlow, if_pos hlow]
    omega
  · have hle := scaledSquare_double_le (show 2 * (2 ^ (k + 1) - 1 - i) < 2 ^ (k + 1) by omega)
    rw [easeSpec_high hlow, if_neg hlow]
    omega

theorem easeSpec_lt (hi : i < 2 ^ (k + 1)) : easeSpec (k + 1) i < 2 ^ (k + 1) := by
  have hw : 2 ^ (k + 1) = 2 * 2 ^ k := Nat.pow_succ'
  by_cases hlow : i < 2 ^ k
  · have hle := scaledSquare_double_le (show 2 * i < 2 ^ (k + 1) by omega)
    rw [easeSpec_low hlow]
    omega
  · rw [easeSpec_high hlow]
    omega

end Ease

theorem ease_lt (w : Width) {f : Nat} (hf : f < 2 ^ w.bits) : w.ease f < 2 ^ w.bits := by
  rw [ease_eq_easeSpec w hf]
  cases w
  · exact easeSpec_lt (k := 15) hf
  · exact easeSpec_lt (k := 7) hf

/-! ### Scale -/

theorem mul_le_pred_mul_pred {a b n : Nat} (ha : a < n) (hb : b < n) : a * b ≤ (n - 1) * (n - 1) :=
  Nat.mul_le_mul (by omega) (by omega)

/-! ### The statements -/

/-- Settles O23: both lerps are those of the two widths. -/
theorem lerpLiesBetweenItsEnds : Obligations.LerpLiesBetweenItsEnds := by
  intro s t rd ra rb rc
  simp only [zextOf_reg_eight, zextOf_reg_sixteen, sextOf_reg_eight, sextOf_reg_sixteen]
  constructor
  · intro ht
    rw [reg_of_exec rfl ht]
    exact signedResult_lerp (w := .narrow) (s8_inRange s ra) (s8_inRange s rb) (u8_lt s rc)
  · intro ht
    rw [reg_of_exec rfl ht]
    exact signedResult_lerp (w := .wide) (s16_inRange s ra) (s16_inRange s rb) (u16_lt s rc)

/-- Settles O25: the two eases are the one of the claims at 8 and at 16 bits. -/
theorem easeShape : Obligations.EaseShape := by
  refine ⟨fun i j hij hj => ?_, fun i hi => ?_, rfl, rfl, fun i j hij hj => ?_, fun i hi => ?_, rfl, rfl⟩
  · rw [ease8_eq_easeSpec (by omega), ease8_eq_easeSpec (by omega)]
    exact easeSpec_mono (k := 7) hij (by omega)
  · rw [ease8_eq_easeSpec (by omega), ease8_eq_easeSpec (by omega)]
    exact ⟨easeSpec_compl (k := 7) (by omega), easeSpec_mod_two (k := 7) (by omega)⟩
  · rw [ease16_eq_easeSpec (by omega), ease16_eq_easeSpec (by omega)]
    exact easeSpec_mono (k := 15) hij (by omega)
  · rw [ease16_eq_easeSpec (by omega), ease16_eq_easeSpec (by omega)]
    exact ⟨easeSpec_compl (k := 15) (by omega), easeSpec_mod_two (k := 15) (by omega)⟩

/-- Settles O26: products of operands of a width are bounded by that of the greatest ones, and an ease keeps to its
width. -/
theorem unsignedAluRanges : Obligations.UnsignedAluRanges := by
  intro s t rd ra rb
  simp only [zextOf_reg_eight]
  have hprod := mul_le_pred_mul_pred (u8_lt s ra) (u8_lt s rb)
  have hprod16 := mul_le_pred_mul_pred (u16_lt s ra) (u16_lt s rb)
  have hease8 : ease8 (s.u8 ra) < 256 := ease_lt .narrow (u8_lt s ra)
  have hease16 : ease16 (s.u16 ra) < 65536 := ease_lt .wide (u16_lt s ra)
  refine ⟨fun ht => ?_, fun ht => ?_, fun ht => ?_, fun ht => ?_, fun ht => ?_, fun ht => ?_⟩
  all_goals rw [reg_of_exec rfl ht]
  · rw [toNat_unsignedResult] <;> rw [scale8_eq] <;> omega
  · have hv : scale8v (s.u8 ra) (s.u8 rb) < 2 ^ 32 := by rw [scale8v_eq]; split <;> omega
    rw [toNat_unsignedResult hv, scale8v_eq]
    split
    next h => simp [h]
    next h => exact ⟨by omega, by simp [h]⟩
  · rw [toNat_unsignedResult] <;> rw [scale16_eq] <;> omega
  · rw [toNat_unsignedResult] <;> rw [qadd8_eq] <;> split <;> omega
  · rw [toNat_unsignedResult] <;> omega
  · rw [toNat_unsignedResult] <;> omega

end Sys2Proof.Machine
end

section
/-! PROOF. The permutation ROM as a permutation, and what holds of the noise whatever it is filled with (O28, O36 to
O42; 43_noise_kernel.md R191 to R215, 44_noise_ops.md R230 to R247). -/

namespace Sys2Proof.Machine

/-! ### The permutation ROM (R191) -/

/-- Entries 0..255 of the table. -/
def permEntry (m : Memory) (i : Fin 256) : Fin 256 := (Memory.lookup i.val m).toFin

theorem permEntry_surjective {m : Memory} (h : m.legal = true) : Function.Surjective (permEntry m) := by
  intro v
  simp only [Memory.legal, Bool.and_eq_true, List.all_eq_true, List.any_eq_true, List.mem_range, beq_iff_eq] at h
  obtain ⟨i, hi, hv⟩ := h.1 v.val v.isLt
  exact ⟨⟨i, hi⟩, Fin.ext hv⟩

theorem lookup_last {m : Memory} (h : m.legal = true) : Memory.lookup 256 m = Memory.lookup 0 m := by
  simp only [Memory.legal, Bool.and_eq_true, beq_iff_eq] at h
  exact h.2

theorem legal_of_wellFormed {p : Params} (h : p.wellFormed = true) : p.perm.legal = true := by
  simp only [Params.wellFormed, Bool.and_eq_true] at h
  exact h.2

/-- What `PLUT` writes for an index within the table. -/
theorem plut_toNat {s t : State} {rd ra : Reg} (hi : zextOf 9 (s.reg ra) ≤ 256) (ht : exec (.plut rd ra) s = .next t) :
    (t.reg rd).toNat = (Memory.lookup (zextOf 9 (s.reg ra)) s.params.perm).toNat := by
  obtain ⟨-, hplut⟩ := tableLookupCommand s rd ra
  have hbyte := (Memory.lookup (zextOf 9 (s.reg ra)) s.params.perm).isLt
  rw [hplut.reg ht, if_pos hi, BitVec.toNat_ofNat]
  omega

/-- Settles O28: a function of 256 values onto 256 values is one to one. -/
theorem tableIsAPermutation : Obligations.TableIsAPermutation := by
  constructor
  · intro s t t' rd ra ra' hp ht ht'
    have hlegal := legal_of_wellFormed hp
    refine ⟨fun hi hi' heq => ?_, fun hi hi' => ?_⟩
    · have hval := congrArg BitVec.toNat heq
      rw [plut_toNat (by omega) ht, plut_toNat (by omega) ht'] at hval
      have hinj := Finite.injective_iff_surjective.2 (permEntry_surjective hlegal)
      exact congrArg Fin.val (@hinj ⟨_, hi⟩ ⟨_, hi'⟩ (Fin.ext hval))
    · apply BitVec.eq_of_toNat_eq
      rw [plut_toNat (by omega) ht, plut_toNat (by omega) ht', hi, hi', lookup_last hlegal]
  · intro s rd ra v hp hv
    obtain ⟨⟨i, hi⟩, hentry⟩ := permEntry_surjective (legal_of_wellFormed hp) ⟨v, hv⟩
    have hidx : zextOf 9 ((s.setReg ra (BitVec.ofNat 32 i)).reg ra) = i := by
      rw [reg_setReg, if_pos rfl, zextOf, BitVec.toNat_ofNat]
      omega
    refine ⟨i, hi, _, rfl, ?_⟩
    rw [plut_toNat (by omega) rfl, hidx]
    exact congrArg Fin.val hentry

/-! ### Axes (R192, R197, R198) -/

theorem fade_lt (p : Params) {w : Width} {f : Nat} (hf : f < 2 ^ w.bits) : fade p w f < 2 ^ w.bits := by
  unfold fade
  split
  · exact ease_lt w hf
  · rw [scale_eq]
    exact Nat.div_lt_of_lt_mul (Nat.mul_lt_mul'' hf hf)

/-- An axis as a coordinate of its width gives it. -/
structure Axis.Fits (a : Axis) (w : Width) : Prop where
  near : a.near < w.step
  fade : a.fade < 2 ^ w.bits

theorem axisOf_fits (p : Params) {w : Width} (b : Byte) {f : Nat} (hf : f < 2 ^ w.bits) : (axisOf p w b f).Fits w :=
  ⟨Nat.mod_lt _ (by cases w <;> decide), fade_lt p hf⟩

theorem wideAxis_fits (p : Params) (c : Word) : (wideAxis p c).Fits .wide :=
  axisOf_fits p _ (BitVec.isLt _)

theorem narrowAxis_fits (p : Params) (c : Half) : (narrowAxis p c).Fits .narrow :=
  axisOf_fits p _ (BitVec.isLt _)

theorem Axis.Fits.at_inRange {a : Axis} {w : Width} (h : a.Fits w) (corner : Fin 2) : InRange w (a.at w corner) := by
  have hnear := h.near
  fin_cases corner
  · simp only [InRange, Fin.zero_eta, at_near]; omega
  · simp only [InRange, Fin.mk_one, at_far]; omega

/-! ### Gradients keep to the width (R199 to R205) -/

section Gradients
variable {w : Width} {x y z t u v : Int}

theorem neg_inRange (hv : InRange w v) : InRange w (w.neg v) := by
  obtain ⟨hlo, hhi⟩ := hv
  rw [neg_eq]
  split <;> exact ⟨by omega, by omega⟩

theorem avg_inRange (hu : InRange w u) (hv : InRange w v) : InRange w (w.avg u v) := by
  obtain ⟨hlo, hhi⟩ := avg_isFloorHalf w u v
  obtain ⟨hulo, huhi⟩ := hu
  obtain ⟨hvlo, hvhi⟩ := hv
  exact ⟨by omega, by omega⟩

theorem gradEnd_inRange (s : Nat) (hu : InRange w u) (hv : InRange w v) : InRange w (gradEnd w s u v) := by
  unfold gradEnd
  apply avg_inRange
  · split
    · exact neg_inRange hu
    · exact hu
  · split
    · exact neg_inRange hv
    · exact hv

theorem grad1_inRange (h : Byte) (hx : InRange w x) : InRange w (grad1 w h x) :=
  gradEnd_inRange _ hx hx

theorem grad2_inRange (h : Byte) (hx : InRange w x) (hy : InRange w y) : InRange w (grad2 w h x y) := by
  apply gradEnd_inRange <;> split <;> assumption

theorem grad3Sel_inRange (s : Nat) (hx : InRange w x) (hy : InRange w y) (hz : InRange w z) :
    InRange w (grad3Sel w s x y z) := by
  apply gradEnd_inRange
  · split <;> assumption
  · split_ifs <;> assumption

theorem grad3_inRange (h : Byte) (hx : InRange w x) (hy : InRange w y) (hz : InRange w z) :
    InRange w (grad3 w h x y z) :=
  grad3Sel_inRange _ hx hy hz

/-- The default 4-D gradient is a 3-D one; any other is a 16-bit value (R204). -/
theorem grad4_inRange (p : Params) (h : Byte) (hx : InRange .wide x) (hy : InRange .wide y) (hz : InRange .wide z)
    (ht : InRange .wide t) : InRange .wide (grad4 p h x y z t) := by
  unfold grad4
  split
  · simp only [grad4Standard]
    split
    · exact grad3Sel_inRange _ hx hy hz
    · exact grad3Sel_inRange _ hy hz ht
  · exact ⟨BitVec.le_toInt _, BitVec.toInt_lt⟩

end Gradients

/-! ### Raw noise (R206, R207, R209) -/

section Raw
variable (p : Params) {w : Width} {x y z t : Axis}

theorem raw1_inRange (hx : x.Fits w) : InRange w (raw1 p w x) := by
  have g (i : Fin 2) := grad1_inRange (hash1 p x.cell i) (hx.at_inRange i)
  exact lerp_inRange (g 0) (g 1) hx.fade

theorem raw2_inRange (hx : x.Fits w) (hy : y.Fits w) : InRange w (raw2 p w x y) := by
  have g (i j : Fin 2) := grad2_inRange (hash2 p x.cell y.cell i j) (hx.at_inRange i) (hy.at_inRange j)
  have lx (j : Fin 2) := lerp_inRange (g 0 j) (g 1 j) hx.fade
  exact lerp_inRange (lx 0) (lx 1) hy.fade

theorem raw3_inRange (hx : x.Fits w) (hy : y.Fits w) (hz : z.Fits w) : InRange w (raw3 p w x y z) := by
  have g (i j k : Fin 2) :=
    grad3_inRange (hash3 p x.cell y.cell z.cell i j k) (hx.at_inRange i) (hy.at_inRange j) (hz.at_inRange k)
  have lx (j k : Fin 2) := lerp_inRange (g 0 j k) (g 1 j k) hx.fade
  have ly (k : Fin 2) := lerp_inRange (lx 0 k) (lx 1 k) hy.fade
  exact lerp_inRange (ly 0) (ly 1) hz.fade

theorem raw4_inRange (hx : x.Fits .wide) (hy : y.Fits .wide) (hz : z.Fits .wide) (ht : t.Fits .wide) :
    InRange .wide (raw4 p x y z t) := by
  have g (i j k l : Fin 2) := grad4_inRange p (hash4 p x.cell y.cell z.cell t.cell i j k l)
    (hx.at_inRange i) (hy.at_inRange j) (hz.at_inRange k) (ht.at_inRange l)
  have lx (j k l : Fin 2) := lerp_inRange (g 0 j k l) (g 1 j k l) hx.fade
  have ly (k l : Fin 2) := lerp_inRange (lx 0 k l) (lx 1 k l) hy.fade
  have lz (l : Fin 2) := lerp_inRange (ly 0 l) (ly 1 l) hz.fade
  exact lerp_inRange (lz 0) (lz 1) ht.fade

/-! With fade 0 along every axis the fold is the gradient of the near corner. -/

theorem raw1_of_fade_zero (hx : x.fade = 0) : raw1 p w x = grad1 w (hash1 p x.cell 0) x.near := by
  simp [raw1, hx]

theorem raw2_of_fade_zero (hx : x.fade = 0) (hy : y.fade = 0) :
    raw2 p w x y = grad2 w (hash2 p x.cell y.cell 0 0) x.near y.near := by
  simp [raw2, hx, hy]

theorem raw3_of_fade_zero (hx : x.fade = 0) (hy : y.fade = 0) (hz : z.fade = 0) :
    raw3 p w x y z = grad3 w (hash3 p x.cell y.cell z.cell 0 0 0) x.near y.near z.near := by
  simp [raw3, hx, hy, hz]

theorem raw4_of_fade_zero (hx : x.fade = 0) (hy : y.fade = 0) (hz : z.fade = 0) (ht : t.fade = 0) :
    raw4 p x y z t =
      grad4 p (hash4 p x.cell y.cell z.cell t.cell 0 0 0 0) x.near y.near z.near t.near := by
  simp [raw4, hx, hy, hz, ht]

end Raw

/-- A fraction whose square is below the width has fade 0, under either selection (R209). -/
theorem fade_of_small (p : Params) {w : Width} {f : Nat} (hf : f * f < 2 ^ w.bits) (hlow : f < 2 ^ (w.bits - 1)) :
    fade p w f = 0 := by
  have hbits : 2 ^ (w.bits - 1) ≤ 2 ^ w.bits := Nat.pow_le_pow_right (by decide) (Nat.sub_le ..)
  rw [fade_eq p (hlow.trans_le hbits), easeSpec, if_pos hlow, Nat.div_eq_of_lt hf]
  simp

theorem wideAxis_fade_of_small (p : Params) {c : Word} (h : zextOf 16 c < 256) : (wideAxis p c).fade = 0 := by
  have hsq : zextOf 16 c * zextOf 16 c < 256 * 256 := Nat.mul_lt_mul'' h h
  rw [wideAxis_eq]
  exact fade_of_small p hsq (h.trans (by decide))

theorem narrowAxis_fade_of_small (p : Params) {c : Half} (h : c.toNat % 256 < 16) : (narrowAxis p c).fade = 0 := by
  have hsq : c.toNat % 256 * (c.toNat % 256) < 16 * 16 := Nat.mul_lt_mul'' h h
  rw [narrowAxis_eq]
  exact fade_of_small p hsq (h.trans (by decide))

/-- Settles O36: gradients and lerps keep to the width of their operands. -/
theorem rawNoiseFitsItsWidth : Obligations.RawNoiseFitsItsWidth := by
  constructor
  · intro p x y z t v hv
    have hin : InRange .wide v := by
      simp only [List.mem_cons, List.not_mem_nil, or_false] at hv
      obtain rfl | rfl | rfl | rfl := hv
      · exact raw1_inRange p (wideAxis_fits p x)
      · exact raw2_inRange p (wideAxis_fits p x) (wideAxis_fits p y)
      · exact raw3_inRange p (wideAxis_fits p x) (wideAxis_fits p y) (wideAxis_fits p z)
      · exact raw4_inRange p (wideAxis_fits p x) (wideAxis_fits p y) (wideAxis_fits p z) (wideAxis_fits p t)
    exact ⟨hin.1, Int.le_sub_one_of_lt hin.2⟩
  · intro p x y z v hv
    have hin : InRange .narrow v := by
      simp only [List.mem_cons, List.not_mem_nil, or_false] at hv
      obtain rfl | rfl | rfl := hv
      · exact raw1_inRange p (narrowAxis_fits p x)
      · exact raw2_inRange p (narrowAxis_fits p x) (narrowAxis_fits p y)
      · exact raw3_inRange p (narrowAxis_fits p x) (narrowAxis_fits p y) (narrowAxis_fits p z)
    exact ⟨hin.1, Int.le_sub_one_of_lt hin.2⟩

/-- Settles O39: the fades of small fractions are 0. -/
theorem onlyTheNearCornerContributes : Obligations.OnlyTheNearCornerContributes := by
  constructor
  · intro p x y z t h a
    have hfade (c : Word) (hc : c ∈ [x, y, z, t]) := wideAxis_fade_of_small p (h c hc)
    have hx := hfade x (by simp)
    have hy := hfade y (by simp)
    have hz := hfade z (by simp)
    have ht := hfade t (by simp)
    exact ⟨raw1_of_fade_zero p hx, raw2_of_fade_zero p hx hy, raw3_of_fade_zero p hx hy hz,
      raw4_of_fade_zero p hx hy hz ht⟩
  · intro p x y z h a
    have hfade (c : Half) (hc : c ∈ [x, y, z]) := narrowAxis_fade_of_small p (h c hc)
    have hx := hfade x (by simp)
    have hy := hfade y (by simp)
    have hz := hfade z (by simp)
    exact ⟨raw1_of_fade_zero p hx, raw2_of_fade_zero p hx hy, raw3_of_fade_zero p hx hy hz⟩

/-- A wide axis depends on the low 24 bits of its coordinate. -/
theorem wideAxis_congr (p : Params) {c c' : Word} (h : c.toNat % 2 ^ 24 = c'.toNat % 2 ^ 24) :
    wideAxis p c = wideAxis p c' := by
  have hcell : c.extractLsb' 16 8 = c'.extractLsb' 16 8 := by
    apply BitVec.eq_of_toNat_eq
    simp only [BitVec.extractLsb'_toNat, Nat.shiftRight_eq_div_pow]
    omega
  have hfrac : c.toNat % 2 ^ 16 = c'.toNat % 2 ^ 16 := by omega
  rw [wideAxis_eq, wideAxis_eq, hcell, hfrac]

/-- Settles O38: the axes are the same. -/
theorem wideNoisePeriod : Obligations.WideNoisePeriod := by
  intro p x y z t x' y' z' t' hx hy hz ht
  simp only [raw16x1, raw16x2, raw16x3, raw16x4, wideAxis_congr p hx, wideAxis_congr p hy, wideAxis_congr p hz,
    wideAxis_congr p ht, and_self]

end Sys2Proof.Machine
end

section
/-! PROOF. Values and ranges of the noise commands' results (O37, O40 to O42; 43_noise_kernel.md R210 to R214,
44_noise_ops.md R235 to R247). -/

namespace Sys2Proof.Machine

/-! ### Lattice points (R210) -/

theorem wideAxis_lattice (p : Params) {c : Word} (h : zextOf 16 c = 0) :
    (wideAxis p c).near = 0 ∧ (wideAxis p c).fade = 0 := by
  have hfrac : c.toNat % 2 ^ 16 = 0 := h
  rw [wideAxis_eq, hfrac]
  simp

theorem narrowAxis_lattice (p : Params) {c : Half} (h : c.toNat % 256 = 0) :
    (narrowAxis p c).near = 0 ∧ (narrowAxis p c).fade = 0 := by
  have hfrac : c.toNat % 2 ^ 8 = 0 := h
  rw [narrowAxis_eq, hfrac]
  simp

section Lattice
variable {p : Params} {w : Width} {x y z t : Axis}

theorem raw1_lattice (hx : x.near = 0 ∧ x.fade = 0) : raw1 p w x = 0 := by
  simp [raw1_of_fade_zero p hx.2, hx.1]

theorem raw2_lattice (hx : x.near = 0 ∧ x.fade = 0) (hy : y.near = 0 ∧ y.fade = 0) : raw2 p w x y = 0 := by
  simp [raw2_of_fade_zero p hx.2 hy.2, hx.1, hy.1]

theorem raw3_lattice (hx : x.near = 0 ∧ x.fade = 0) (hy : y.near = 0 ∧ y.fade = 0) (hz : z.near = 0 ∧ z.fade = 0) :
    raw3 p w x y z = 0 := by
  simp [raw3_of_fade_zero p hx.2 hy.2 hz.2, hx.1, hy.1, hz.1]

theorem raw4_lattice (hp : p.grad4 = .standard) (hx : x.near = 0 ∧ x.fade = 0) (hy : y.near = 0 ∧ y.fade = 0)
    (hz : z.near = 0 ∧ z.fade = 0) (ht : t.near = 0 ∧ t.fade = 0) : raw4 p x y z t = 0 := by
  simp [raw4_of_fade_zero p hx.2 hy.2 hz.2 ht.2, grad4_standard hp, grad4Standard, grad3Sel, hx.1, hy.1, hz.1, ht.1]

end Lattice

/-- The fraction of a shifted coordinate is 0 when the low byte is (R214). -/
theorem zextOf_hiresCoord {c : Half} (h : c.toNat % 256 = 0) : zextOf 16 (hiresCoord c) = 0 := by
  simp only [zextOf, hiresCoord, BitVec.toNat_shiftLeft, BitVec.toNat_setWidth, Nat.shiftLeft_eq]
  omega

theorem coord16_mod (s : State) (r : Reg) : (s.coord16 r).toNat % 256 = zextOf 8 (s.reg r) := by
  simp only [State.coord16, BitVec.toNat_setWidth, zextOf]
  omega

/-- Settles O37: the raw value is 0, and the unsigned outputs are what their formulas make of 0. -/
theorem latticeValues : Obligations.LatticeValues := by
  intro s rd ra rb rc re
  have done {i : Instr} {v w : Word} (hx : exec i s = .next (s.writeResult rd v)) (hv : v = w) : Completes i s rd w :=
    completes_of_writeResult hx hv
  constructor
  · intro h
    have axis (r : Reg) (hr : r ∈ [ra, rb, rc, re]) := wideAxis_lattice s.params (h r hr)
    have ha := axis ra (by simp)
    have hb := axis rb (by simp)
    have hc := axis rc (by simp)
    have he := axis re (by simp)
    have h1 : raw16x1 s.params (s.reg ra) = 0 := raw1_lattice ha
    have h2 : raw16x2 s.params (s.reg ra) (s.reg rb) = 0 := raw2_lattice ha hb
    have h3 : raw16x3 s.params (s.reg ra) (s.reg rb) (s.reg rc) = 0 := raw3_lattice ha hb hc
    refine ⟨done rfl (by rw [h1]; rfl), done rfl (by rw [h2]; rfl), done rfl (by rw [h3]; rfl),
      done rfl (by rw [unsigned16x1, h1]; rfl), done rfl (by rw [unsigned16x2, h2]; rfl),
      done rfl (by rw [unsigned16x3, h3]; rfl), fun hp => ?_⟩
    have h4 : raw16x4 s.params (s.reg ra) (s.reg rb) (s.reg rc) (s.reg re) = 0 := raw4_lattice hp ha hb hc he
    exact ⟨done rfl (by rw [h4]; rfl), done rfl (by rw [unsigned16x4, h4]; rfl)⟩
  · intro h
    have low (r : Reg) (hr : r ∈ [ra, rb, rc]) := (coord16_mod s r).trans (h r hr)
    have ha := low ra (by simp)
    have hb := low rb (by simp)
    have hc := low rc (by simp)
    have narrow {c : Half} (h : c.toNat % 256 = 0) := narrowAxis_lattice s.params h
    have hires {c : Half} (h : c.toNat % 256 = 0) := wideAxis_lattice s.params (zextOf_hiresCoord h)
    have h1 : raw8x1 s.params (s.coord16 ra) = 0 := raw1_lattice (narrow ha)
    have h2 : raw8x2 s.params (s.coord16 ra) (s.coord16 rb) = 0 := raw2_lattice (narrow ha) (narrow hb)
    have h3 : raw8x3 s.params (s.coord16 ra) (s.coord16 rb) (s.coord16 rc) = 0 :=
      raw3_lattice (narrow ha) (narrow hb) (narrow hc)
    have h1' : raw16x1 s.params (hiresCoord (s.coord16 ra)) = 0 := raw1_lattice (hires ha)
    have h2' : raw16x2 s.params (hiresCoord (s.coord16 ra)) (hiresCoord (s.coord16 rb)) = 0 :=
      raw2_lattice (hires ha) (hires hb)
    have h3' : raw16x3 s.params (hiresCoord (s.coord16 ra)) (hiresCoord (s.coord16 rb)) (hiresCoord (s.coord16 rc)) =
      0 := raw3_lattice (hires ha) (hires hb) (hires hc)
    exact ⟨done rfl (by rw [h1]; rfl), done rfl (by rw [h2]; rfl), done rfl (by rw [h3]; rfl),
      done rfl (by rw [unsigned8x1, h1]; rfl), done rfl (by rw [unsigned8x2, h2]; rfl),
      done rfl (by rw [unsigned8x3, h3]; rfl), done rfl (by rw [hires8x1, unsigned16x1, h1']; rfl),
      done rfl (by rw [hires8x2, unsigned16x2, h2']; rfl), done rfl (by rw [hires8x3, unsigned16x3, h3']; rfl)⟩

/-! ### The range of narrow 1-D noise (R213) -/

/-- The values that a 1-D gradient can have (R203): at the most negative coordinate, which is its own negation, all
are the coordinate itself. -/
def gradients1 (x : Int) : List Int := [x, 0, -x]

theorem grad1_mem_gradients1 (w : Width) (h : Byte) (x : Int) : grad1 w h x ∈ gradients1 x := by
  have hpp := avg_isFloorHalf w x x
  have hnp := avg_isFloorHalf w (w.neg x) x
  have hpn := avg_isFloorHalf w x (w.neg x)
  have hnn := avg_isFloorHalf w (w.neg x) (w.neg x)
  have hneg := neg_eq w x
  simp only [IsFloorHalf] at hpp hnp hpn hnn
  simp only [grad1, gradEnd, gradients1, List.mem_cons, List.not_mem_nil, or_false]
  split_ifs at hneg ⊢ <;> omega

/-- The lerp of the near and the far gradient of a narrow fraction under `QUAD`, fraction by fraction. -/
theorem lerp_gradients1_quad : ∀ f < 256, ∀ a ∈ gradients1 (f / 2 : Nat), ∀ b ∈ gradients1 ((f / 2 : Nat) - 128),
    -64 ≤ lerp7by8 a b (ease8 f) ∧ lerp7by8 a b (ease8 f) ≤ 64 := by
  decide +kernel

/-- The same under `LEGACY`. -/
theorem lerp_gradients1_legacy : ∀ f < 256, ∀ a ∈ gradients1 (f / 2 : Nat), ∀ b ∈ gradients1 ((f / 2 : Nat) - 128),
    -68 ≤ lerp7by8 a b (scale8 f f) ∧ lerp7by8 a b (scale8 f f) ≤ 68 := by
  decide +kernel

/-- Narrow 1-D raw noise is such a lerp. -/
theorem raw8x1_eq_lerp (p : Params) (c : Half) :
    ∃ f < 256, ∃ a ∈ gradients1 (f / 2 : Nat), ∃ b ∈ gradients1 ((f / 2 : Nat) - 128),
      raw8x1 p c = lerp7by8 a b (fade p .narrow f) := by
  have hf : c.toNat % 2 ^ 8 < 2 ^ Width.narrow.bits := Nat.mod_lt _ (by decide)
  obtain ⟨hnear, hfar, -⟩ := axisOf_eq p (c.extractLsb' 8 8) hf
  refine ⟨c.toNat % 2 ^ 8, hf, _, ?_, _, ?_, by rw [raw8x1, narrowAxis_eq]; rfl⟩
  · show grad1 _ _ (Axis.at _ _ 0) ∈ _
    rw [hnear]
    exact grad1_mem_gradients1 ..
  · show grad1 _ _ (Axis.at _ _ 1) ∈ _
    rw [hfar]
    exact grad1_mem_gradients1 ..

/-- Settles O40: the corners' gradients and the fade of every fraction are in the two tables of lerps. -/
theorem narrowOneDimensionalRange : Obligations.NarrowOneDimensionalRange := by
  intro s t rd ra ht
  have hin : InRange .narrow (raw8x1 s.params (s.coord16 ra)) := raw1_inRange s.params (narrowAxis_fits s.params _)
  obtain ⟨f, hf, a, ha, b, hb, hraw⟩ := raw8x1_eq_lerp s.params (s.coord16 ra)
  rw [reg_of_exec rfl ht, toInt_signedResult hin, hraw]
  refine ⟨fun hsel => ?_, fun hsel => ?_⟩ <;> simp only [fade, hsel]
  · exact lerp_gradients1_quad f hf a ha b hb
  · exact lerp_gradients1_legacy f hf a ha b hb

/-! ### Parity and windows of the unsigned outputs (R211 to R213) -/

theorem unsigned16x1_even (p : Params) (x : Word) : unsigned16x1 p x % 2 = 0 ∧ unsigned16x1 p x ≤ 65534 := by
  have heq := unsigned16x1_eq p x
  omega

/-- A byte doubled is even and a byte, or saturates. -/
theorem wrap8_even_or_saturated (raw : Int) : (wrap8 raw % 2 = 0 ∧ wrap8 raw ≤ 254) ∨ wrap8 raw = 255 := by
  have heq := wrap8_eq_wrapSpec raw
  unfold wrapSpec at heq
  omega

/-- Settles O41: the outputs themselves, which are below `2^32`. -/
theorem unsignedNoiseParity : Obligations.UnsignedNoiseParity := by
  intro s t rd ra rb rc
  constructor
  · intro ht
    have heven := unsigned16x1_even s.params (s.reg ra)
    rwa [reg_of_exec rfl ht, toNat_unsignedResult (by omega)]
  · have wrapped (raw : Int) (ht : t.reg rd = unsignedResult (wrap8 raw)) :
        ((t.reg rd).toNat % 2 = 0 ∧ (t.reg rd).toNat ≤ 254) ∨ (t.reg rd).toNat = 255 := by
      have heven := wrap8_even_or_saturated raw
      rwa [ht, toNat_unsignedResult (by omega)]
    rintro (ht | ht | ht) <;> exact wrapped _ (reg_of_exec rfl ht)

/-- The rescale does not wrap when the biased value is not negative and the result fits 16 bits. -/
theorem rescale_eq_iff {bias ratio raw : Int} (hratio : 0 < ratio) (hfit : (raw + bias) * ratio < 2 ^ 32) :
    (rescale bias ratio raw : Int) = (raw + bias) * ratio / 256 ↔
      0 ≤ raw + bias ∧ (raw + bias) * ratio / 256 < 2 ^ 16 := by
  by_cases hbias : 0 ≤ raw + bias
  · have hle : raw + bias ≤ (raw + bias) * ratio := le_mul_of_one_le_right hbias hratio
    rw [rescale_eq_rescaleSpec, rescaleSpec, Int.emod_eq_of_lt hbias (hle.trans_lt hfit),
      Int.emod_eq_of_lt (hbias.trans hle) hfit]
    omega
  · have hneg : (raw + bias) * ratio < 0 := mul_neg_of_neg_of_pos (by omega) hratio
    omega

/-- Settles O42: below the window the biased value is negative, above it the result does not fit 16 bits. -/
theorem rescaleWindows : Obligations.RescaleWindows := by
  intro raw hlo hhi
  rw [rescale_eq_iff (by decide) (by omega), rescale_eq_iff (by decide) (by omega)]
  constructor <;> omega

end Sys2Proof.Machine
end
